-- ==== Sys2Proof/Word.lean ====
section
/-! DEFINITION. The words of VFSD: a byte of the wire or of BUF, and the 16-bit event word (spec 00_scope.md R7, 30_encoding.md R80). -/
namespace Sys2Proof

/-- A byte, an 8-bit unsigned value (R7). -/
abbrev Byte := BitVec 8

/-- One 16-bit input event word E (R80). -/
abbrev EventWord := BitVec 16

end Sys2Proof
end

