-- ==== Sys2Proof/Config.lean ====
section
/-! DEFINITION. The parameters a VFSD implementation fixes (spec 00_scope.md R5, 10_state.md R31), and the one free value
(93_implementation_defined.md U3). Derived sizes, defaults and the admission check R6 are in Machine/Table.lean. -/
namespace Sys2Proof

/-- CK_ALG, the checksum algorithm (R5, R132, R133; an OPEN parameter of the spec). -/
inductive CkAlg
  | add8
  | xor8
  deriving DecidableEq, Repr

/-- One TABLE entry as its words: the 64-bit header H[e] and the 32-bit field descriptors D[e][0..MAX_FIELDS-1] (R95). -/
structure Entry where
  hdr : BitVec 64
  descs : List (BitVec 32)
  deriving DecidableEq, Repr

/-- The parameters of R5, under R5's names. FRAME_LEN is derived (Config.frameLen). -/
structure Config where
  sync0 : Byte
  sync1 : Byte
  escLit : Byte
  srcLen : Nat
  cmdLen : Nat
  payloadLen : Nat
  ckAlg : CkAlg
  maxEntries : Nat
  maxFields : Nat
  nSinks : Nat
  qDepth : Nat
  tsW : Nat
  ctrW : Nat
  table : List Entry
  deriving DecidableEq, Repr

/-- The byte BUF[i] holds after the n-th RESET event: unspecified (R35, R182, U3 'any value'). A FREE VALUE: no proof can see
it (log entry 6). -/
opaque Config.freeByte : Nat → Nat → Byte

/-- The sink index the defaults call the Status Sink; a name only (R210, U14). -/
def statusSink : BitVec 4 := 0

/-- The sink index the defaults call the Metrics Sink; a name only (R210, U14). -/
def metricsSink : BitVec 4 := 1

end Sys2Proof
end

