-- ==== Sys2Proof/Machine/Table.lean ====
section
/-! DEFINITION. The bit fields of a TABLE entry (spec 30_encoding.md R95), the frame layout (R70), the default configuration
(00_scope.md R5, 30_encoding.md R98) and the admission of a configuration (00_scope.md R6). -/
namespace Sys2Proof

/-- H[e].VALID, bit 63 (R95). -/
def hdrValid (h : BitVec 64) : Bool := h.getLsbD 63

/-- H[e].NF, bits 59:56 (R95). -/
def hdrNf (h : BitVec 64) : BitVec 4 := h.extractLsb' 56 4

/-- H[e].PLEN, bits 55:48 (R95). -/
def hdrPlen (h : BitVec 64) : BitVec 8 := h.extractLsb' 48 8

/-- H[e].SRC, bits 23:16 (R95). -/
def hdrSrc (h : BitVec 64) : BitVec 8 := h.extractLsb' 16 8

/-- H[e].CMD, bits 15:0 (R95). -/
def hdrCmd (h : BitVec 64) : BitVec 16 := h.extractLsb' 0 16

/-- The reserved bits 62:60 and 47:24 of H[e] are 0 (R95). -/
def hdrReservedZero (h : BitVec 64) : Bool := h.extractLsb' 60 3 == 0 && h.extractLsb' 24 24 == 0

/-- D.DIV, bits 31:16 (R95). -/
def descDiv (d : BitVec 32) : BitVec 16 := d.extractLsb' 16 16

/-- D.CHAN, bits 15:12 (R95). -/
def descChan (d : BitVec 32) : BitVec 4 := d.extractLsb' 12 4

/-- D.KIND, bit 11: 0 = Temperature, 1 = PumpSpeed (R95). -/
def descKind (d : BitVec 32) : Bool := d.getLsbD 11

/-- D.SGN, bit 10: 1 = signed, 0 = unsigned (R95). -/
def descSgn (d : BitVec 32) : Bool := d.getLsbD 10

/-- D.WC, bits 9:8, the width code (R95). -/
def descWc (d : BitVec 32) : BitVec 2 := d.extractLsb' 8 2

/-- D.OFF, bits 7:0, the byte offset within the payload (R95). -/
def descOff (d : BitVec 32) : BitVec 8 := d.extractLsb' 0 8

/-- The descriptors an entry uses: D[e][0..NF-1]; the others are ignored (R95). -/
def usedDescs (e : Entry) : List (BitVec 32) := e.descs.take (hdrNf e.hdr).toNat

/-- FRAME_LEN = 2 + SRC_LEN + CMD_LEN + PAYLOAD_LEN + 1 logical bytes (R5). -/
def Config.frameLen (c : Config) : Nat := 2 + c.srcLen + c.cmdLen + c.payloadLen + 1

/-- OFF_SRC = 2 (R70). -/
def Config.offSrc (_ : Config) : Nat := 2

/-- OFF_CMD = 2 + SRC_LEN (R70). -/
def Config.offCmd (c : Config) : Nat := 2 + c.srcLen

/-- OFF_PAY = OFF_CMD + CMD_LEN (R70). -/
def Config.offPay (c : Config) : Nat := c.offCmd + c.cmdLen

/-- OFF_CK = FRAME_LEN - 1 (R70). -/
def Config.offCk (c : Config) : Nat := c.frameLen - 1

/-- An entry has the encoding of R95: reserved bits 0, MAX_FIELDS descriptor words, NF of them used.
DEDUCED: NF ≤ MAX_FIELDS (log entry 10). -/
def Entry.wf (c : Config) (e : Entry) : Bool :=
  hdrReservedZero e.hdr && e.descs.length == c.maxFields && decide ((hdrNf e.hdr).toNat ≤ c.maxFields)

/-- A configuration is admitted (R6). The ranges of MAX_ENTRIES and MAX_FIELDS are R5's; TS_W ≤ 64 is DEDUCED from R96, which
packs TS zero-extended to 64 bits (log entry 10). -/
def Config.wf (c : Config) : Bool :=
  decide (
    c.sync0 ≠ c.sync1 ∧ c.sync0 ≠ c.escLit ∧ c.sync1 ≠ c.escLit ∧
    (1 ≤ c.qDepth ∧ c.qDepth ≤ 255) ∧ (1 ≤ c.nSinks ∧ c.nSinks ≤ 16) ∧ c.frameLen ≤ 255 ∧
    (1 ≤ c.maxEntries ∧ c.maxEntries ≤ 255) ∧ c.maxFields ≤ 15 ∧ c.tsW ≤ 64 ∧
    c.table.length = c.maxEntries ∧ c.table.all (Entry.wf c) = true)

/-- TABLE entry 0 of R98: the §8 device, eight temperatures and one pump speed. -/
def defaultEntry : Entry where
  hdr := 0x8911000000100100
  descs := [0x000A0500, 0x000A1502, 0x000A2504, 0x000A3506, 0x000A4508, 0x000A550A, 0x000A650C, 0x000A750E, 0x00018810]
    ++ List.replicate 6 0

/-- An entry with VALID = 0 and every other bit 0 (R98, entries 1..7). -/
def unusedEntry : Entry where
  hdr := 0
  descs := List.replicate 15 0

/-- The default TABLE (R98). -/
def defaultTable : List Entry := defaultEntry :: List.replicate 7 unusedEntry

/-- The default of every parameter (R5). -/
def Config.default : Config where
  sync0 := 0xAA
  sync1 := 0x55
  escLit := 0x00
  srcLen := 1
  cmdLen := 2
  payloadLen := 17
  ckAlg := .add8
  maxEntries := 8
  maxFields := 15
  nSinks := 2
  qDepth := 4
  tsW := 64
  ctrW := 32
  table := defaultTable

end Sys2Proof
end

