-- ==== Sys2Proof/Syntax.lean ====
section
/-! DEFINITION. The input events as instructions: one constructor per row of spec/opcode_table.json (30_encoding.md R80 to R90).
A BYTE event is one of eleven forms, by the synchronizer state SYNC_ST and the class of its byte (R90). -/
namespace Sys2Proof

/-- SYNC_ST, the synchronizer state (10_state.md R22). It says what the next wire byte means. -/
inductive SyncState
  /-- 0: no sentinel byte seen. -/
  | seekIdle
  /-- 1: the last wire byte was SYNC0; waiting for SYNC1. -/
  | seekS1
  /-- 2: inside a frame; the next wire byte is literal or SYNC0. -/
  | accum
  /-- 3: inside a frame; the last wire byte was SYNC0, and its meaning waits on the next one (R25). -/
  | accEsc
  deriving DecidableEq, Repr

/-- The events, one constructor per row of the opcode table. A byte operand stands where the row's class has more than one byte. -/
inductive Instr
  /-- BYTE.SEEK_IDLE.SYNC0 (R102): sentinel lead. -/
  | seekIdleSync0
  /-- BYTE.SEEK_IDLE.NOISE (R103): any byte but SYNC0. -/
  | seekIdleNoise (b : Byte)
  /-- BYTE.SEEK_S1.SYNC1 (R104): sentinel complete. -/
  | seekS1Sync1
  /-- BYTE.SEEK_S1.SYNC0 (R105): repeated lead. -/
  | seekS1Sync0
  /-- BYTE.SEEK_S1.NOISE (R106): any byte but SYNC0 and SYNC1. -/
  | seekS1Noise (b : Byte)
  /-- BYTE.ACCUM.ESC_LEAD (R107): escape lead. -/
  | accumEscLead
  /-- BYTE.ACCUM.LITERAL (R108): any byte but SYNC0. -/
  | accumLiteral (b : Byte)
  /-- BYTE.ACC_ESC.ESC_LIT (R109): escaped SYNC0. -/
  | accEscEscLit
  /-- BYTE.ACC_ESC.SYNC1 (R110): embedded sentinel, TruncatedFrame. -/
  | accEscSync1
  /-- BYTE.ACC_ESC.SYNC0 (R111): bad escape and new lead, EscapeError. -/
  | accEscSync0
  /-- BYTE.ACC_ESC.BAD (R112): bad escape, EscapeError. -/
  | accEscBad (b : Byte)
  /-- POP.OK (R161): sink k took its head entry. -/
  | popOk (k : BitVec 4)
  /-- POP.ERR (R162): sink k took its head entry and failed. -/
  | popErr (k : BitVec 4)
  /-- XPORT_ERR (R180). -/
  | xportErr
  /-- SHUTDOWN (R181). -/
  | shutdown
  /-- RESET (R182). -/
  | reset
  deriving DecidableEq, Repr

end Sys2Proof
end

