-- ==== Sys2Proof/WellFormed.lean ====
section
/-! DEFINITION. Which terms of Instr spell an event of a configuration (spec 30_encoding.md R87, R90), and in which synchronizer
state an event has that form (R90). -/
namespace Sys2Proof

/-- The byte operand is of the form's class (R90), and the sink index is below N_SINKS (R87). -/
def Instr.wf (c : Config) : Instr → Bool
  | .seekIdleSync0 => true
  | .seekIdleNoise b => b != c.sync0
  | .seekS1Sync1 => true
  | .seekS1Sync0 => true
  | .seekS1Noise b => b != c.sync0 && b != c.sync1
  | .accumEscLead => true
  | .accumLiteral b => b != c.sync0
  | .accEscEscLit => true
  | .accEscSync1 => true
  | .accEscSync0 => true
  | .accEscBad b => b != c.escLit && b != c.sync1 && b != c.sync0
  | .popOk k => decide (k.toNat < c.nSinks)
  | .popErr k => decide (k.toNat < c.nSinks)
  | .xportErr => true
  | .shutdown => true
  | .reset => true

/-- The SYNC_ST of a BYTE form's row (R90); the other events have one form in every SYNC_ST. -/
def Instr.formState : Instr → Option SyncState
  | .seekIdleSync0 => some .seekIdle
  | .seekIdleNoise _ => some .seekIdle
  | .seekS1Sync1 => some .seekS1
  | .seekS1Sync0 => some .seekS1
  | .seekS1Noise _ => some .seekS1
  | .accumEscLead => some .accum
  | .accumLiteral _ => some .accum
  | .accEscEscLit => some .accEsc
  | .accEscSync1 => some .accEsc
  | .accEscSync0 => some .accEsc
  | .accEscBad _ => some .accEsc
  | .popOk _ => none
  | .popErr _ => none
  | .xportErr => none
  | .shutdown => none
  | .reset => none

/-- An event can have this form when SYNC_ST is st (R90). -/
def Instr.offeredIn (st : SyncState) (i : Instr) : Bool := i.formState == none || i.formState == some st

/-- The event is a BYTE event, in any of its eleven forms (R81). -/
def Instr.isByte (i : Instr) : Bool := i.formState != none

end Sys2Proof
end

