-- ==== Sys2Proof/Decode.lean ====
section
/-! DEFINITION. Decoding an event word (spec 30_encoding.md R80 to R87) and classifying a byte by SYNC_ST (R90); the encoder; and
the host's decodeTableWord. Decoding is total: a word that spells no event is rejected by name. -/
namespace Sys2Proof

/-- Why a word is reserved: one constructor per refused row of R87's table. -/
inductive ReservedWord
  /-- KIND = 0x1 with ARG ≠ 0. -/
  | byteArg
  /-- KIND = 0x2 with DATA[7:1] ≠ 0. -/
  | popStatus
  /-- KIND = 0x2 with ARG ≥ N_SINKS. -/
  | popSink
  /-- KIND 0x3, 0x4 or 0x5 with E[11:0] ≠ 0. -/
  | controlOperand
  /-- KIND = 0x0 or 0x6..0xF. -/
  | kind
  deriving DecidableEq, Repr

/-- What an event word spells, before a byte is classified (R81 to R85). -/
inductive EventKind
  | byte (b : Byte)
  | popOk (k : BitVec 4)
  | popErr (k : BitVec 4)
  | xportErr
  | shutdown
  | reset
  deriving DecidableEq, Repr

/-- E[15:12] (R80). -/
def evKind (w : EventWord) : BitVec 4 := w.extractLsb' 12 4

/-- E[11:8] (R80). -/
def evArg (w : EventWord) : BitVec 4 := w.extractLsb' 8 4

/-- E[7:0] (R80). -/
def evData (w : EventWord) : Byte := w.extractLsb' 0 8

/-- The event a word spells, or the row of R87 that reserves it. -/
def parseEvent (c : Config) (w : EventWord) : Except ReservedWord EventKind :=
  match (evKind w).toNat with
  | 1 => if evArg w = 0 then .ok (.byte (evData w)) else .error .byteArg
  | 2 =>
    if w.extractLsb' 1 7 ≠ 0 then .error .popStatus
    else if c.nSinks ≤ (evArg w).toNat then .error .popSink
    else if w.getLsbD 0 then .ok (.popErr (evArg w))
    else .ok (.popOk (evArg w))
  | 3 => if w.extractLsb' 0 12 = 0 then .ok .xportErr else .error .controlOperand
  | 4 => if w.extractLsb' 0 12 = 0 then .ok .shutdown else .error .controlOperand
  | 5 => if w.extractLsb' 0 12 = 0 then .ok .reset else .error .controlOperand
  | _ => .error .kind

/-- The form of a BYTE event: the tests of R90 and R100, top to bottom inside each state. -/
def classifyByte (c : Config) (st : SyncState) (b : Byte) : Instr :=
  match st with
  | .seekIdle => if b = c.sync0 then .seekIdleSync0 else .seekIdleNoise b
  | .seekS1 => if b = c.sync1 then .seekS1Sync1 else if b = c.sync0 then .seekS1Sync0 else .seekS1Noise b
  | .accum => if b = c.sync0 then .accumEscLead else .accumLiteral b
  | .accEsc =>
    if b = c.escLit then .accEscEscLit else if b = c.sync1 then .accEscSync1
    else if b = c.sync0 then .accEscSync0 else .accEscBad b

/-- The instruction an event is when SYNC_ST is st. -/
def EventKind.instr (c : Config) (st : SyncState) : EventKind → Instr
  | .byte b => classifyByte c st b
  | .popOk k => .popOk k
  | .popErr k => .popErr k
  | .xportErr => .xportErr
  | .shutdown => .shutdown
  | .reset => .reset

/-- The decoder: the instruction a word spells when SYNC_ST is st, or why it spells none. -/
def decode (c : Config) (st : SyncState) (w : EventWord) : Except ReservedWord Instr :=
  match parseEvent c w with
  | .ok e => .ok (e.instr c st)
  | .error r => .error r

/-- The event an instruction is a form of: its wire byte, or its kind and sink index. -/
def Instr.event (c : Config) : Instr → EventKind
  | .seekIdleSync0 => .byte c.sync0
  | .seekIdleNoise b => .byte b
  | .seekS1Sync1 => .byte c.sync1
  | .seekS1Sync0 => .byte c.sync0
  | .seekS1Noise b => .byte b
  | .accumEscLead => .byte c.sync0
  | .accumLiteral b => .byte b
  | .accEscEscLit => .byte c.escLit
  | .accEscSync1 => .byte c.sync1
  | .accEscSync0 => .byte c.sync0
  | .accEscBad b => .byte b
  | .popOk k => .popOk k
  | .popErr k => .popErr k
  | .xportErr => .xportErr
  | .shutdown => .shutdown
  | .reset => .reset

/-- The word of an event (R81 to R85). -/
def encodeEvent : EventKind → EventWord
  | .byte b => 0x1000 ||| b.setWidth 16
  | .popOk k => 0x2000 ||| (k.setWidth 16 <<< 8)
  | .popErr k => 0x2000 ||| (k.setWidth 16 <<< 8) ||| 1
  | .xportErr => 0x3000
  | .shutdown => 0x4000
  | .reset => 0x5000

/-- The encoder: the event word of an instruction. -/
def encode (c : Config) (i : Instr) : EventWord := encodeEvent (i.event c)

/-- The host's question: the instruction the decoder reads from the table's bits w. A BYTE word's form depends on SYNC_ST, which a
word does not carry: this is the decoder at reset's SYNC_ST, SEEK_IDLE, under the default configuration (log entry 8). -/
def decodeTableWord (nbits w : Nat) : Option Instr :=
  (decode Config.default .seekIdle (BitVec.ofNat 16 (w % 2 ^ nbits))).toOption

end Sys2Proof
end

