-- ==== Sys2Proof/Machine/State.lean ====
section
/-! DEFINITION. The state of VFSD (spec 10_state.md R20 to R31), the reasons a step can stop, and the state at power-on (R35). -/
namespace Sys2Proof.Machine

/-- MODE, the run mode (R21). -/
inductive Mode
  /-- 0: bytes are accepted. -/
  | run
  /-- 1: shutdown requested; no bytes accepted; the FIFOs still drain. -/
  | closing
  /-- 2: shutdown complete; every FIFO is empty. -/
  | halted
  /-- 3: a TransportError was taken; no bytes accepted; the FIFOs still drain. -/
  | fatal
  deriving DecidableEq, Repr

/-- KIND of a Reading (R97, R139). -/
inductive Quantity
  | temperature
  | pumpSpeed
  deriving DecidableEq, Repr

/-- A Reading: its channel, kind, signedness, raw value and divisor (R97). -/
structure Reading where
  raw : BitVec 32
  div : BitVec 16
  sgn : Bool
  kind : Quantity
  chan : BitVec 4
  deriving DecidableEq, Repr

/-- A ReadingSet (R96). N is the number of its readings; TS is a value of TS_W bits. -/
structure ReadingSet where
  src : BitVec 8
  cmd : BitVec 16
  ts : Nat
  readings : List Reading
  deriving DecidableEq, Repr

/-- The dispatcher state of one sink: its FIFO, head first (R29), and its four counters (R30). -/
structure Sink where
  q : List ReadingSet
  enq : Nat
  deliv : Nat
  sinkErr : Nat
  drop : Nat
  deriving DecidableEq, Repr

/-- One offered event: its word (R80) and the value on the TS input at its step (R13, R86). -/
structure Offer where
  word : EventWord
  ts : Nat
  deriving DecidableEq, Repr

/-- Why the machine has no step. Each constructor is safe: the model stops and proves nothing of what comes after. -/
inductive Fault
  /-- BYTE in CLOSING, HALTED or FATAL has no step (R100, U6). Raised by every BYTE form. Safe in itself; that no byte is offered
  there is the spec's assumption (R213, log entry 12). -/
  | byteOutsideRun
  /-- XPORT_ERR outside RUN has no step (R180, U6). Raised by execXportErr. Safe. -/
  | xportErrOutsideRun
  /-- SHUTDOWN outside RUN has no step (R181, U6). Raised by execShutdown. Safe. -/
  | shutdownOutsideRun
  /-- POP k with Q[k] empty has no step: the sink waits (R161, R162, U5). Raised by execPopOk and execPopErr. Safe. -/
  | popEmpty
  /-- No agent offers an event: the block waits (R212). Raised by step. Safe. -/
  | noEventOffered
  /-- q_data[k] read while q_valid[k] = 0 (R32, R239, U4). Raised by the output qData, by no event. Safe. -/
  | qDataUndefined
  deriving DecidableEq, Repr

/-- Why the machine refuses an input. Each constructor is safe: nothing is proved of what comes after. -/
inductive Refusal
  /-- An instruction whose meaning is not written: raised by exec's refused arms (there are none). Safe. -/
  | notModelled (mnemonic : String)
  /-- A word that spells no event (R87, U7). Raised by step, and by the POP meanings for a sink index ≥ N_SINKS. Safe. -/
  | reservedWord (r : ReservedWord)
  /-- A BYTE form executed when SYNC_ST or the byte's class is another (R90): no event is that form then. Raised by the BYTE
  meanings; step never raises it. Safe (log entry 9). -/
  | notThisByteForm
  /-- The configuration breaks R6, so no event runs. Raised by step. Safe. -/
  | illFormedConfig
  deriving DecidableEq, Repr

/-- The state of VFSD: R20's tuple, the configuration (constant, R31), and the inputs of the block. Counters are natural numbers
of CTR_W bits. -/
structure State where
  /-- The configuration: R5's parameters and TABLE; no event writes it (R31). -/
  cfg : Config
  mode : Mode
  syncSt : SyncState
  cnt : BitVec 8
  buf : List Byte
  lastErr : BitVec 4
  ctrBytes : Nat
  ctrCand : Nat
  ctrOk : Nat
  ctrCkErr : Nat
  ctrUnkDev : Nat
  ctrMalf : Nat
  ctrTrunc : Nat
  ctrEscErr : Nat
  /-- Q[k] and the counters of sink k, for k = 0..N_SINKS-1. -/
  sinks : List Sink
  /-- The TS input during the current step (R13). The model's own field. -/
  tsIn : Nat
  /-- The events the agents offer, in the order of the interleaving (R12, R57). The model's own field. -/
  pending : List Offer
  /-- How many RESET events drew free BUF bytes. The model's own field (log entry 6). -/
  draws : Nat
  deriving DecidableEq, Repr

/-- Sink state at reset: an empty FIFO and counters 0 (R35). -/
def Sink.initial : Sink where
  q := []
  enq := 0
  deliv := 0
  sinkErr := 0
  drop := 0

/-- The state at power-on under a configuration (R35, R230). BUF is unspecified there: zeros, DESIGN CHOICE (log entry 5). The
inputs are the model's own: no event offered, TS input 0, no draw (log entries 3, 4, 6). -/
def State.powerOn (c : Config) : State where
  cfg := c
  mode := .run
  syncSt := .seekIdle
  cnt := 0
  buf := List.replicate c.frameLen 0
  lastErr := 0
  ctrBytes := 0
  ctrCand := 0
  ctrOk := 0
  ctrCkErr := 0
  ctrUnkDev := 0
  ctrMalf := 0
  ctrTrunc := 0
  ctrEscErr := 0
  sinks := List.replicate c.nSinks Sink.initial
  tsIn := 0
  pending := []
  draws := 0

/-- The machine right after reset, under the default configuration (R35, R5). -/
def State.reset : State := State.powerOn Config.default

end Sys2Proof.Machine
end

