-- ==== Sys2Proof/Machine/Flags.lean ====
section
/-! DEFINITION. VFSD has no flags (spec 10_state.md R33): its 1-bit status values and the other read-only outputs are functions of
the state (R32), and the packed q_data words (30_encoding.md R96, R97). Reading one changes nothing (20_memory.md R56). -/
namespace Sys2Proof.Machine

/-- The 2-bit code of MODE (R21). -/
def modeCode : Mode → BitVec 2
  | .run => 0
  | .closing => 1
  | .halted => 2
  | .fatal => 3

/-- The 2-bit code of SYNC_ST (R22). -/
def syncCode : SyncState → BitVec 2
  | .seekIdle => 0
  | .seekS1 => 1
  | .accum => 2
  | .accEsc => 3

/-- The output fatal (R32). -/
def fatalOut (s : State) : Bool := s.mode == .fatal

/-- The output halted (R32). -/
def haltedOut (s : State) : Bool := s.mode == .halted

/-- Q[k], empty for an index no sink has. -/
def State.queue (s : State) (k : Nat) : List ReadingSet := (s.sinks[k]?.map Sink.q).getD []

/-- The output q_valid[k]: len(Q[k]) > 0 (R32). -/
def qValid (s : State) (k : Nat) : Bool := !(s.queue k).isEmpty

/-- The output q_level[k], 8 bits: len(Q[k]) (R32). -/
def qLevel (s : State) (k : Nat) : BitVec 8 := BitVec.ofNat 8 (s.queue k).length

/-- The output q_data[k]: head(Q[k]); undefined, so a fault, when q_valid[k] = 0 (R32, R239). -/
def qData (s : State) (k : Nat) : Except Fault ReadingSet :=
  match s.queue k with
  | [] => .error .qDataUndefined
  | rs :: _ => .ok rs

/-- Every FIFO is empty (R163, R181). -/
def allQueuesEmpty (s : State) : Bool := s.sinks.all fun k => k.q.isEmpty

/-- KIND as the bit of R97. -/
def quantityBit : Quantity → BitVec 1
  | .temperature => 0
  | .pumpSpeed => 1

/-- A Reading as its 64-bit word (R97): RAW, DIV, ten zero bits, SGN, KIND, CHAN. -/
def packReading (r : Reading) : BitVec 64 :=
  (r.raw ++ r.div ++ (0 : BitVec 10) ++ BitVec.ofBool r.sgn ++ quantityBit r.kind ++ r.chan).cast (by decide)

/-- Word 0 of a packed ReadingSet (R96): 36 zero bits, N, CMD, SRC. -/
def packHeader (rs : ReadingSet) : BitVec 64 :=
  ((0 : BitVec 36) ++ BitVec.ofNat 4 rs.readings.length ++ rs.cmd ++ rs.src).cast (by decide)

/-- A ReadingSet as the words of the q_data port (R96). -/
def packSet (rs : ReadingSet) : List (BitVec 64) :=
  packHeader rs :: BitVec.ofNat 64 rs.ts :: rs.readings.map packReading

/-- The read-only outputs of R32 that are one value for the whole block; the per-sink ones are qValid, qData, qLevel and the
counters of the sink. -/
structure Outputs where
  mode : BitVec 2
  syncState : BitVec 2
  count : BitVec 8
  lastErr : BitVec 4
  fatal : Bool
  halted : Bool
  ctrBytes : Nat
  ctrCand : Nat
  ctrOk : Nat
  ctrCkErr : Nat
  ctrUnkDev : Nat
  ctrMalf : Nat
  ctrTrunc : Nat
  ctrEscErr : Nat
  deriving DecidableEq, Repr

/-- The outputs every step exposes (R32). -/
def outputs (s : State) : Outputs where
  mode := modeCode s.mode
  syncState := syncCode s.syncSt
  count := s.cnt
  lastErr := s.lastErr
  fatal := fatalOut s
  halted := haltedOut s
  ctrBytes := s.ctrBytes
  ctrCand := s.ctrCand
  ctrOk := s.ctrOk
  ctrCkErr := s.ctrCkErr
  ctrUnkDev := s.ctrUnkDev
  ctrMalf := s.ctrMalf
  ctrTrunc := s.ctrTrunc
  ctrEscErr := s.ctrEscErr

end Sys2Proof.Machine
end

