-- ==== Sys2Proof/Machine/Ops.lean ====
section
/-! DEFINITION. The shared operations over registers, BUF and the FIFOs (spec 00_scope.md R10, R11): counting, raising an error
(60_exceptions.md R200, R204), starting and dropping a span (40_synchronizer.md R101, R114), enqueueing (42_dispatcher.md R160),
removing a head and the drain check (R161 to R163). There is no return from an error (60_exceptions.md R205). -/
namespace Sys2Proof.Machine

/-- CTR <- CTR + 1 modulo 2^CTR_W (R10, R26). -/
def bump (c : Config) (n : Nat) : Nat := (n + 1) % 2 ^ c.ctrW

/-- The errors of R200. -/
inductive Err
  | checksumError
  | unknownDeviceError
  | malformedPayloadError
  | truncatedFrame
  | escapeError
  | sinkError (k : Nat)
  | transportError
  deriving DecidableEq, Repr

/-- The 4-bit code of an error (R200). -/
def errCode : Err → BitVec 4
  | .checksumError => 1
  | .unknownDeviceError => 2
  | .malformedPayloadError => 3
  | .truncatedFrame => 4
  | .escapeError => 5
  | .sinkError _ => 6
  | .transportError => 7

/-- Change the dispatcher state of sink k. -/
def modifySink (k : Nat) (f : Sink → Sink) (s : State) : State := { s with sinks := s.sinks.modify k f }

/-- raise E (R11, R27, R28, R200, R201): count it, and write its code to LAST_ERR. SinkError counts only (R28, R162);
TransportError counts nothing and makes the block FATAL (R180). Nothing is saved and no handler exists (R204). -/
def raiseErr (e : Err) (s : State) : State :=
  match e with
  | .checksumError => { s with ctrCkErr := bump s.cfg s.ctrCkErr, lastErr := errCode e }
  | .unknownDeviceError => { s with ctrUnkDev := bump s.cfg s.ctrUnkDev, lastErr := errCode e }
  | .malformedPayloadError => { s with ctrMalf := bump s.cfg s.ctrMalf, lastErr := errCode e }
  | .truncatedFrame => { s with ctrTrunc := bump s.cfg s.ctrTrunc, lastErr := errCode e }
  | .escapeError => { s with ctrEscErr := bump s.cfg s.ctrEscErr, lastErr := errCode e }
  | .sinkError k => modifySink k (fun snk => { snk with sinkErr := bump s.cfg snk.sinkErr }) s
  | .transportError => { s with lastErr := errCode e, mode := .fatal }

/-- CTR_BYTES <- CTR_BYTES + 1 (R100). -/
def countByte (s : State) : State := { s with ctrBytes := bump s.cfg s.ctrBytes }

/-- SYNC_ST <- st. -/
def setSync (st : SyncState) (s : State) : State := { s with syncSt := st }

/-- discard(): CNT <- 0; BUF is not cleared (R114). -/
def discard (s : State) : State := { s with cnt := 0 }

/-- start_frame() (R101). -/
def startFrame (s : State) : State :=
  { s with buf := (s.buf.set 0 s.cfg.sync0).set 1 s.cfg.sync1, cnt := 2, syncSt := .accum }

/-- raise TruncatedFrame; discard(); start_frame() (R110). -/
def truncate (s : State) : State := startFrame (discard (raiseErr .truncatedFrame s))

/-- raise EscapeError; discard(); SYNC_ST <- st (R111, R112). -/
def badEscape (st : SyncState) (s : State) : State := setSync st (discard (raiseErr .escapeError s))

/-- Offer a ReadingSet to one sink: count it, drop the oldest if the FIFO is full, append it (R160, the loop's body). -/
def offerTo (c : Config) (rs : ReadingSet) (snk : Sink) : Sink :=
  if snk.q.length = c.qDepth then
    { snk with enq := bump c snk.enq, drop := bump c snk.drop, q := snk.q.tail ++ [rs] }
  else { snk with enq := bump c snk.enq, q := snk.q ++ [rs] }

/-- dispatch(rs): offer it to every sink (R160). -/
def dispatch (rs : ReadingSet) (s : State) : State := { s with sinks := s.sinks.map (offerTo s.cfg rs) }

/-- drop_head(Q[k]) (R10). -/
def dropHead (k : Nat) (s : State) : State := modifySink k (fun snk => { snk with q := snk.q.tail }) s

/-- CTR_DELIV[k] <- CTR_DELIV[k] + 1 (R161). -/
def countDelivered (k : Nat) (s : State) : State :=
  modifySink k (fun snk => { snk with deliv := bump s.cfg snk.deliv }) s

/-- drain_check(): CLOSING becomes HALTED when every FIFO is empty (R163). -/
def drainCheck (s : State) : State :=
  if s.mode = .closing ∧ allQueuesEmpty s then { s with mode := .halted } else s

/-- A POP of sink k (R161, R162): refused for an index ≥ N_SINKS, no step on an empty FIFO; else the head is removed, the event is
recorded and the drain checked. -/
def popSink (k : BitVec 4) (record : State → State) (s : State) : Host.Outcome State Fault Refusal :=
  if s.cfg.nSinks ≤ k.toNat then .refused (.reservedWord .popSink)
  else if s.queue k.toNat = [] then .fault .popEmpty
  else .next (drainCheck (record (dropHead k.toNat s)))

/-- A BYTE form (R100, R90): no step outside RUN; refused where SYNC_ST or the byte is of another form; else the byte is counted
and the form takes its effect. -/
def byteForm (st : SyncState) (inClass : Bool) (effect : State → State) (s : State) : Host.Outcome State Fault Refusal :=
  if s.mode ≠ .run then .fault .byteOutsideRun
  else if s.syncSt = st ∧ inClass then .next (effect (countByte s))
  else .refused .notThisByteForm

end Sys2Proof.Machine
end

