-- ==== Sys2Proof/Machine/Control.lean ====
section
/-! DEFINITION. The control events (spec 43_control.md R180 to R182). -/
namespace Sys2Proof.Machine

/-- XPORT_ERR (R180): discard(); SYNC_ST <- SEEK_IDLE; raise TransportError. No step outside RUN. -/
def execXportErr (s : State) : Host.Outcome State Fault Refusal :=
  if s.mode ≠ .run then .fault .xportErrOutsideRun
  else .next (raiseErr .transportError (setSync .seekIdle (discard s)))

/-- The mode after SHUTDOWN: HALTED if every FIFO is empty, else CLOSING (R181). -/
def closeMode (s : State) : State := { s with mode := if allQueuesEmpty s then .halted else .closing }

/-- SHUTDOWN (R181). No step outside RUN. -/
def execShutdown (s : State) : Host.Outcome State Fault Refusal :=
  if s.mode ≠ .run then .fault .shutdownOutsideRun
  else .next (closeMode (setSync .seekIdle (discard s)))

/-- FRAME_LEN free bytes: BUF after the n-th RESET (R182 'BUF unspecified', U3; log entry 6). -/
def freeBuf (c : Config) (n : Nat) : List Byte := (List.range c.frameLen).map (Config.freeByte n)

/-- Every element at its reset value, the configuration kept (R35, R182). The inputs are no state of the block: the TS input and the
events still offered stay. -/
def resetState (s : State) : State :=
  { State.powerOn s.cfg with
    buf := freeBuf s.cfg s.draws, tsIn := s.tsIn, pending := s.pending, draws := s.draws + 1 }

/-- RESET (R182): enabled in every MODE. -/
def execReset (s : State) : Host.Outcome State Fault Refusal := .next (resetState s)

end Sys2Proof.Machine
end

