-- ==== Sys2Proof/Machine/Dispatcher.lean ====
section
/-! DEFINITION. Sink consumption, the POP events (spec 42_dispatcher.md R161 to R163). The value sink k receives is q_data[k] of the
state before the step. -/
namespace Sys2Proof.Machine

/-- POP.OK (R161): the head is removed, CTR_DELIV[k] counts it. -/
def execPopOk (k : BitVec 4) (s : State) : Host.Outcome State Fault Refusal :=
  popSink k (countDelivered k.toNat) s

/-- POP.ERR (R162): the head is removed and not retried; raise SinkError(k). -/
def execPopErr (k : BitVec 4) (s : State) : Host.Outcome State Fault Refusal :=
  popSink k (raiseErr (.sinkError k.toNat)) s

end Sys2Proof.Machine
end

