-- ==== Sys2Proof/Machine/Operands.lean ====
section
/-! DEFINITION. Reading operands out of a candidate: little-endian assembly (spec 00_scope.md R9, 20_memory.md R53), the fields of
the frame (30_encoding.md R70 to R72), a payload field and its extension (41_decoder.md R136, R137), and the value of a Reading
(R138, R139). -/
namespace Sys2Proof.Machine

/-- LE(bytes) = Σ bytes[i] · 2^(8i) (R9). -/
def leNat : List Byte → Nat
  | [] => 0
  | b :: bs => b.toNat + 256 * leNat bs

/-- bytes[o .. o+n-1]. -/
def slice (l : List Byte) (o n : Nat) : List Byte := (l.drop o).take n

/-- Byte i of BUF (R10, R24). Under the span invariant no index falls outside BUF (R50). -/
def bufByte (buf : List Byte) (i : Nat) : Byte := buf.getD i 0

/-- sourceAddress: the SRC_LEN bytes at OFF_SRC, little-endian (R71, R70, R53). -/
def srcOf (c : Config) (buf : List Byte) : Nat := leNat (slice buf c.offSrc c.srcLen)

/-- command: the CMD_LEN bytes at OFF_CMD, little-endian (R72). -/
def cmdOf (c : Config) (buf : List Byte) : Nat := leNat (slice buf c.offCmd c.cmdLen)

/-- The payload bytes P (R70). -/
def payload (c : Config) (buf : List Byte) : List Byte := slice buf c.offPay c.payloadLen

/-- width(WC) in bytes; the code 11 is reserved (R95, R135). -/
def fieldWidth (wc : BitVec 2) : Option Nat :=
  match wc.toNat with
  | 0 => some 1
  | 1 => some 2
  | 2 => some 4
  | _ => none

/-- The width of a descriptor's field. A reserved code never gets here: payload_ok has refused it (R135). -/
def descWidth (d : BitVec 32) : Nat := (fieldWidth (descWc d)).getD 0

/-- field_bits(D) = LE(P[OFF .. OFF+w-1]), an 8w-bit unsigned value (R136). -/
def fieldBits (p : List Byte) (d : BitVec 32) : Nat := leNat (slice p (descOff d).toNat (descWidth d))

/-- An n-bit value extended to 32 bits: sext_32 if signed, zext_32 if not (R8). -/
def extend32 (n : Nat) (sgn : Bool) (v : Nat) : BitVec 32 :=
  if sgn then (BitVec.ofNat n v).signExtend 32 else (BitVec.ofNat n v).setWidth 32

/-- raw32(D) (R137). -/
def raw32 (p : List Byte) (d : BitVec 32) : BitVec 32 := extend32 (8 * descWidth d) (descSgn d) (fieldBits p d)

/-- KIND bit 0 = Temperature, 1 = PumpSpeed (R97). -/
def quantityOf (kind : Bool) : Quantity := if kind then .pumpSpeed else .temperature

/-- The Reading of a descriptor (R140). -/
def readingOf (p : List Byte) (d : BitVec 32) : Reading where
  raw := raw32 p d
  div := descDiv d
  sgn := descSgn d
  kind := quantityOf (descKind d)
  chan := descChan d

/-- int(RAW): sint_32 if SGN = 1, uint_32 if not (R138, R8). -/
def intRaw (r : Reading) : Int := if r.sgn then r.raw.toInt else (r.raw.toNat : Int)

/-- The exact rational a Reading denotes, int(RAW) / DIV (R138). DIV = 0 cannot reach a Reading (R135). -/
def readingValue (r : Reading) : Rat := (intRaw r : Rat) / (r.div.toNat : Rat)

/-- The units of R139. -/
inductive MeasureUnit
  | degreeCelsius
  | percent
  deriving DecidableEq, Repr

/-- Temperatures are in °C, pump speeds in % (R139). -/
def unitOf (r : Reading) : MeasureUnit :=
  match r.kind with
  | .temperature => .degreeCelsius
  | .pumpSpeed => .percent

end Sys2Proof.Machine
end

