-- ==== Sys2Proof/Machine/Decoder.lean ====
section
/-! DEFINITION. The frame decoder, the completion phase of a BYTE step (spec 41_decoder.md R130 to R141): checksum, lookup, payload
check, the ReadingSet; and store(v), which runs it (40_synchronizer.md R113). -/
namespace Sys2Proof.Machine

/-- CK for ADD8: the sum of the bytes modulo 256 (R132). -/
def ckAdd8 (bs : List Byte) : Byte := bs.foldl (· + ·) 0

/-- CK for XOR8: the exclusive-or of the bytes (R133). -/
def ckXor8 (bs : List Byte) : Byte := bs.foldl (· ^^^ ·) 0

/-- CK by CK_ALG (R131). -/
def checksum (c : Config) (bs : List Byte) : Byte :=
  match c.ckAlg with
  | .add8 => ckAdd8 bs
  | .xor8 => ckXor8 bs

/-- checksum_ok(): CK over BUF[0..FRAME_LEN-2], the sentinel included, equals BUF[FRAME_LEN-1] (R131). -/
def checksumOk (c : Config) (buf : List Byte) : Bool :=
  checksum c (buf.take (c.frameLen - 1)) == bufByte buf c.offCk

/-- An entry is valid and has the key (src, cmd) (R134). -/
def entryMatches (src cmd : Nat) (e : Entry) : Bool :=
  hdrValid e.hdr && (hdrSrc e.hdr).toNat == src && (hdrCmd e.hdr).toNat == cmd

/-- lookup(src, cmd): the matching entry of lowest index, or none (R134). -/
def lookupEntry (c : Config) (src cmd : Nat) : Option Entry := c.table.find? (entryMatches src cmd)

/-- A descriptor is usable: its width code is not reserved, its divisor not 0, its field inside the payload (R135). -/
def descOk (c : Config) (d : BitVec 32) : Bool :=
  match fieldWidth (descWc d) with
  | none => false
  | some w => descDiv d != 0 && decide ((descOff d).toNat + w ≤ c.payloadLen)

/-- payload_ok(e) (R135). -/
def payloadOk (c : Config) (e : Entry) : Bool :=
  (hdrPlen e.hdr).toNat == c.payloadLen && (usedDescs e).all (descOk c)

/-- build_set(e, src, cmd, TS) (R140). A matching entry's keys bound src and cmd, so the 8- and 16-bit fields hold them whole. -/
def buildSet (c : Config) (e : Entry) (buf : List Byte) (ts : Nat) : ReadingSet where
  src := BitVec.ofNat 8 (srcOf c buf)
  cmd := BitVec.ofNat 16 (cmdOf c buf)
  ts := ts
  readings := (usedDescs e).map (readingOf (payload c buf))

/-- What a completion makes of a candidate, in R130's order: an error, or a ReadingSet. A function of BUF, TABLE, the parameters
and TS alone (R142). -/
def decodeCandidate (c : Config) (buf : List Byte) (ts : Nat) : Except Err ReadingSet :=
  if checksumOk c buf then
    match lookupEntry c (srcOf c buf) (cmdOf c buf) with
    | none => .error .unknownDeviceError
    | some e => if payloadOk c e then .ok (buildSet c e buf ts) else .error .malformedPayloadError
  else .error .checksumError

/-- TS, sampled from the TS_W-bit input (R13, R141). -/
def sampleTs (s : State) : Nat := s.tsIn % 2 ^ s.cfg.tsW

/-- EMITTING: CTR_OK <- CTR_OK + 1; dispatch(rs) (R130). -/
def emit (rs : ReadingSet) (s : State) : State := dispatch rs { s with ctrOk := bump s.cfg s.ctrOk }

/-- The outcome of decoding takes effect: DISCARDING raises, EMITTING emits (R130). -/
def conclude (r : Except Err ReadingSet) (s : State) : State :=
  match r with
  | .error e => raiseErr e s
  | .ok rs => emit rs s

/-- CTR_CAND <- CTR_CAND + 1 (R130). -/
def countCandidate (s : State) : State := { s with ctrCand := bump s.cfg s.ctrCand }

/-- complete(TS) (R130). -/
def complete (s : State) : State := conclude (decodeCandidate s.cfg s.buf (sampleTs s)) (countCandidate s)

/-- BUF[CNT] <- v; CNT <- CNT + 1 (R113, its first two lines). -/
def putByte (v : Byte) (s : State) : State := { s with buf := s.buf.set s.cnt.toNat v, cnt := s.cnt + 1 }

/-- The rest of store(v): complete when CNT is FRAME_LEN, else go on accumulating (R113). -/
def settle (s : State) : State :=
  if s.cnt.toNat = s.cfg.frameLen then setSync .seekIdle (discard (complete s)) else setSync .accum s

/-- store(v) (R113). -/
def store (v : Byte) (s : State) : State := settle (putByte v s)

end Sys2Proof.Machine
end

