-- ==== Sys2Proof/Machine/Synchronizer.lean ====
section
/-! DEFINITION. The eleven forms of BYTE (spec 40_synchronizer.md R100 to R114). -/
namespace Sys2Proof.Machine

/-- BYTE.SEEK_IDLE.SYNC0 (R102): SYNC_ST <- SEEK_S1. -/
def execSeekIdleSync0 (s : State) : Host.Outcome State Fault Refusal :=
  byteForm .seekIdle true (setSync .seekS1) s

/-- BYTE.SEEK_IDLE.NOISE (R103): SYNC_ST <- SEEK_IDLE, no change. -/
def execSeekIdleNoise (b : Byte) (s : State) : Host.Outcome State Fault Refusal :=
  byteForm .seekIdle (b != s.cfg.sync0) (setSync .seekIdle) s

/-- BYTE.SEEK_S1.SYNC1 (R104): start_frame(). -/
def execSeekS1Sync1 (s : State) : Host.Outcome State Fault Refusal :=
  byteForm .seekS1 true startFrame s

/-- BYTE.SEEK_S1.SYNC0 (R105): SYNC_ST <- SEEK_S1, no change. -/
def execSeekS1Sync0 (s : State) : Host.Outcome State Fault Refusal :=
  byteForm .seekS1 true (setSync .seekS1) s

/-- BYTE.SEEK_S1.NOISE (R106): SYNC_ST <- SEEK_IDLE. -/
def execSeekS1Noise (b : Byte) (s : State) : Host.Outcome State Fault Refusal :=
  byteForm .seekS1 (b != s.cfg.sync0 && b != s.cfg.sync1) (setSync .seekIdle) s

/-- BYTE.ACCUM.ESC_LEAD (R107): SYNC_ST <- ACC_ESC. -/
def execAccumEscLead (s : State) : Host.Outcome State Fault Refusal :=
  byteForm .accum true (setSync .accEsc) s

/-- BYTE.ACCUM.LITERAL (R108): store(b). -/
def execAccumLiteral (b : Byte) (s : State) : Host.Outcome State Fault Refusal :=
  byteForm .accum (b != s.cfg.sync0) (store b) s

/-- BYTE.ACC_ESC.ESC_LIT (R109): store(SYNC0). -/
def execAccEscEscLit (s : State) : Host.Outcome State Fault Refusal :=
  byteForm .accEsc true (store s.cfg.sync0) s

/-- BYTE.ACC_ESC.SYNC1 (R110): raise TruncatedFrame; discard(); start_frame(). -/
def execAccEscSync1 (s : State) : Host.Outcome State Fault Refusal :=
  byteForm .accEsc true truncate s

/-- BYTE.ACC_ESC.SYNC0 (R111): raise EscapeError; discard(); SYNC_ST <- SEEK_S1. -/
def execAccEscSync0 (s : State) : Host.Outcome State Fault Refusal :=
  byteForm .accEsc true (badEscape .seekS1) s

/-- BYTE.ACC_ESC.BAD (R112): raise EscapeError; discard(); SYNC_ST <- SEEK_IDLE. -/
def execAccEscBad (b : Byte) (s : State) : Host.Outcome State Fault Refusal :=
  byteForm .accEsc (b != s.cfg.escLit && b != s.cfg.sync1 && b != s.cfg.sync0) (badEscape .seekIdle) s

end Sys2Proof.Machine
end

