-- ==== Sys2Proof/Machine/Dispatch.lean ====
section
/-! DEFINITION. exec: one arm per event form. -/
namespace Sys2Proof.Machine

def exec (i : Instr) (s : State) : Host.Outcome State Fault Refusal :=
  match i with
  | .seekIdleSync0 => Sys2Proof.Machine.execSeekIdleSync0 s
  | .seekIdleNoise b => Sys2Proof.Machine.execSeekIdleNoise b s
  | .seekS1Sync1 => Sys2Proof.Machine.execSeekS1Sync1 s
  | .seekS1Sync0 => Sys2Proof.Machine.execSeekS1Sync0 s
  | .seekS1Noise b => Sys2Proof.Machine.execSeekS1Noise b s
  | .accumEscLead => Sys2Proof.Machine.execAccumEscLead s
  | .accumLiteral b => Sys2Proof.Machine.execAccumLiteral b s
  | .accEscEscLit => Sys2Proof.Machine.execAccEscEscLit s
  | .accEscSync1 => Sys2Proof.Machine.execAccEscSync1 s
  | .accEscSync0 => Sys2Proof.Machine.execAccEscSync0 s
  | .accEscBad b => Sys2Proof.Machine.execAccEscBad b s
  | .popOk k => Sys2Proof.Machine.execPopOk k s
  | .popErr k => Sys2Proof.Machine.execPopErr k s
  | .xportErr => Sys2Proof.Machine.execXportErr s
  | .shutdown => Sys2Proof.Machine.execShutdown s
  | .reset => Sys2Proof.Machine.execReset s

end Sys2Proof.Machine
end

