-- ==== Sys2Proof/Machine/Fetch.lean ====
section
/-! DEFINITION. Taking the next event (spec 00_scope.md R12, R13): the configuration is admitted, the head of the offered events is
taken with its TS value, and its word decoded. -/
namespace Sys2Proof.Machine

/-- What the next step is about: an instruction and the state it runs in, or why there is none. -/
inductive Fetched
  | run (i : Instr) (s : State)
  | fault (f : Fault)
  | refused (r : Refusal)
  deriving DecidableEq, Repr

/-- The state in which an offered event runs: its TS value stands on the TS input, and the event is taken from the offers. -/
def takeOffer (o : Offer) (rest : List Offer) (s : State) : State := { s with tsIn := o.ts, pending := rest }

/-- The next event (R12): an ill-formed configuration runs none (R6); with none offered the block waits (R212); a reserved word is
refused (R87). -/
def fetch (s : State) : Fetched :=
  if s.cfg.wf then
    match s.pending with
    | [] => .fault .noEventOffered
    | o :: rest =>
      match decode s.cfg s.syncSt o.word with
      | .ok i => .run i (takeOffer o rest s)
      | .error r => .refused (.reservedWord r)
  else .refused .illFormedConfig

/-- s with an event offered before all others. -/
def offerFirst (o : Offer) (s : State) : State := { s with pending := o :: s.pending }

/-- The word of nbits table bits; the bits above are 0. -/
def tableWord (nbits w : Nat) : EventWord := BitVec.ofNat 16 (w % 2 ^ nbits)

end Sys2Proof.Machine
end

