-- ==== Sys2Proof/Machine/Step.lean ====
section
/-! DEFINITION. One step: the next offered event is taken and executed (spec 00_scope.md R12). -/
namespace Sys2Proof.Machine

/-- The outcome of what was fetched: an instruction is executed, a stop is a stop. -/
def execFetched : Fetched → Host.Outcome State Fault Refusal
  | .run i t => exec i t
  | .fault f => .fault f
  | .refused r => .refused r

/-- One step of the machine (R12): next state, no step (a fault), or a refusal. -/
def step (s : State) : Host.Outcome State Fault Refusal := execFetched (fetch s)

/-- s with the event word of the table's bits w offered first, so that the next step takes it; the value on the TS input stays
(log entry 3). -/
def State.withFetchWord (s : State) (nbits w : Nat) : State := offerFirst ⟨tableWord nbits w, s.tsIn⟩ s

end Sys2Proof.Machine
end

