-- ==== Sys2Proof/Machine/Wire.lean ====
section
/-! DEFINITION. What the Byte Source delivers for a frame: the escape rule (spec 30_encoding.md R75), and the assembler lines and
pseudo-instructions in which the spec writes event sequences (R88, R89). No event executes any of it. -/
namespace Sys2Proof.Machine

/-- The body of a wire frame: each SYNC0 is followed by ESC_LIT, every other byte goes as it is (R75). -/
def stuffBody (c : Config) : List Byte → List Byte
  | [] => []
  | b :: bs => if b = c.sync0 then c.sync0 :: c.escLit :: stuffBody c bs else b :: stuffBody c bs

/-- The wire bytes of a logical frame: the sentinel unescaped, then the stuffed body (R75). -/
def wireOf (c : Config) (l : List Byte) : List Byte := l.take 2 ++ stuffBody c (l.drop 2)

/-- A logical frame: FRAME_LEN bytes that open with the sentinel (R70, R75). Its checksum may be wrong. -/
abbrev IsFrame (c : Config) (l : List Byte) : Prop :=
  l.length = c.frameLen ∧ l.take 2 = [c.sync0, c.sync1]

/-- The n low bytes of v, least significant first (R9). -/
def leBytes : Nat → Nat → List Byte
  | 0, _ => []
  | n + 1, v => BitVec.ofNat 8 v :: leBytes n (v / 256)

/-- The frame without its checksum: sentinel, sourceAddress, command, payload (R70, R89). -/
def frameHead (c : Config) (src cmd : Nat) (p : List Byte) : List Byte :=
  [c.sync0, c.sync1] ++ leBytes c.srcLen src ++ leBytes c.cmdLen cmd ++ p

/-- FRAME src, cmd, p: the logical frame with its checksum (R89). -/
def buildFrame (c : Config) (src cmd : Nat) (p : List Byte) : List Byte :=
  frameHead c src cmd p ++ [checksum c (frameHead c src cmd p)]

/-- FRAME! src, cmd, p, ck: the logical frame with a forced checksum byte (R89). -/
def forceFrame (c : Config) (src cmd : Nat) (p : List Byte) (ck : Byte) : List Byte := frameHead c src cmd p ++ [ck]

/-- The payload of STD: each temperature reduced modulo 2^16, little-endian, then the pump byte (R89). -/
def stdPayload (temps : List Int) (pump : Byte) : List Byte :=
  temps.flatMap (fun t => leBytes 2 (BitVec.ofInt 16 t).toNat) ++ [pump]

/-- One line of the syntax of R88 and R89; ts is its @ts. -/
inductive Line
  | byte (b : Byte) (ts : Nat)
  | bytes (bs : List Byte) (ts : Nat)
  | noise (bs : List Byte) (ts : Nat)
  | frame (src cmd : Nat) (p : List Byte) (ts : Nat)
  | frameForced (src cmd : Nat) (p : List Byte) (ck : Byte) (ts : Nat)
  | std (src cmd : Nat) (temps : List Int) (pump : Byte) (ts : Nat)
  | popOk (k : BitVec 4)
  | popErr (k : BitVec 4)
  | xportErr
  | shutdown
  | reset
  deriving DecidableEq, Repr

/-- BYTE events for wire bytes, with one TS value (R88). -/
def byteOffers (bs : List Byte) (ts : Nat) : List Offer := bs.map fun b => ⟨encodeEvent (.byte b), ts⟩

/-- The events a line stands for (R88, R89). Only a BYTE that completes a frame uses its TS; the other events carry 0. -/
def lineOffers (c : Config) : Line → List Offer
  | .byte b ts => byteOffers [b] ts
  | .bytes bs ts => byteOffers bs ts
  | .noise bs ts => byteOffers bs ts
  | .frame src cmd p ts => byteOffers (wireOf c (buildFrame c src cmd p)) ts
  | .frameForced src cmd p ck ts => byteOffers (wireOf c (forceFrame c src cmd p ck)) ts
  | .std src cmd temps pump ts => byteOffers (wireOf c (buildFrame c src cmd (stdPayload temps pump))) ts
  | .popOk k => [⟨encodeEvent (.popOk k), 0⟩]
  | .popErr k => [⟨encodeEvent (.popErr k), 0⟩]
  | .xportErr => [⟨encodeEvent .xportErr, 0⟩]
  | .shutdown => [⟨encodeEvent .shutdown, 0⟩]
  | .reset => [⟨encodeEvent .reset, 0⟩]

end Sys2Proof.Machine
end

