-- ==== Sys2Proof/Safety.lean ====
section
/-! DEFINITION. The terms claims use: the agents (spec 00_scope.md R4, 60_exceptions.md R207), the end of a run
(70_reset_and_hazards.md R242), the invariants of the spec (10_state.md R23, R24, R28, R29, R34), and what a step produces, hands over
and loses (20_memory.md R59, 42_dispatcher.md R165). -/
namespace Sys2Proof.Machine

/-- Who offers an event (R4, R207). -/
inductive Agent
  | byteSource
  | sink (k : BitVec 4)
  | host
  deriving DecidableEq, Repr

/-- The agent an event belongs to (R207). -/
def agentOf : Instr → Agent
  | .popOk k => .sink k
  | .popErr k => .sink k
  | .shutdown => .host
  | .reset => .host
  | _ => .byteSource

/-- A run has ended (R242). -/
def ended (s : State) : Bool := s.mode == .halted || s.mode == .fatal && allQueuesEmpty s

/-- The synchronizer is inside a frame: ACCUMULATING_FRAME (R22). -/
abbrev inFrame (s : State) : Prop := s.syncSt = .accum ∨ s.syncSt = .accEsc

/-- The state has the shape of R20 under an admitted configuration (R6): FRAME_LEN bytes of BUF, N_SINKS sinks. -/
abbrev ShapeInv (s : State) : Prop :=
  s.cfg.wf = true ∧ s.buf.length = s.cfg.frameLen ∧ s.sinks.length = s.cfg.nSinks

/-- The span invariants of R23, and the sentinel that R101 keeps in BUF while a frame accumulates. -/
abbrev SpanInv (s : State) : Prop :=
  (s.cnt = 0 ↔ s.syncSt = .seekIdle ∨ s.syncSt = .seekS1) ∧
  (2 ≤ s.cnt.toNat ∧ s.cnt.toNat ≤ s.cfg.frameLen - 1 ↔ inFrame s) ∧
  (inFrame s → bufByte s.buf 0 = s.cfg.sync0 ∧ bufByte s.buf 1 = s.cfg.sync1)

/-- Every FIFO holds at most QDEPTH ReadingSets (R29). -/
abbrev QueueInv (s : State) : Prop := ∀ snk ∈ s.sinks, snk.q.length ≤ s.cfg.qDepth

/-- LAST_ERR holds a code that R28 and R200 let it hold: 0..5 or 7 (U10). -/
abbrev CodeInv (s : State) : Prop := s.lastErr.toNat ≤ 7 ∧ s.lastErr.toNat ≠ 6

/-- Every queued ReadingSet has a TS_W-bit TS, at most 15 readings, and no divisor 0 (R96, R95, R138). -/
abbrev SetInv (s : State) : Prop :=
  ∀ snk ∈ s.sinks, ∀ rs ∈ snk.q,
    rs.ts < 2 ^ s.cfg.tsW ∧ rs.readings.length ≤ 15 ∧ ∀ r ∈ rs.readings, r.div ≠ 0

/-- Every counter is a CTR_W-bit value (R26, R30). -/
abbrev CounterInv (s : State) : Prop :=
  s.ctrBytes < 2 ^ s.cfg.ctrW ∧ s.ctrCand < 2 ^ s.cfg.ctrW ∧ s.ctrOk < 2 ^ s.cfg.ctrW ∧
  s.ctrCkErr < 2 ^ s.cfg.ctrW ∧ s.ctrUnkDev < 2 ^ s.cfg.ctrW ∧ s.ctrMalf < 2 ^ s.cfg.ctrW ∧
  s.ctrTrunc < 2 ^ s.cfg.ctrW ∧ s.ctrEscErr < 2 ^ s.cfg.ctrW ∧
  ∀ snk ∈ s.sinks, snk.enq < 2 ^ s.cfg.ctrW ∧ snk.deliv < 2 ^ s.cfg.ctrW ∧
    snk.sinkErr < 2 ^ s.cfg.ctrW ∧ snk.drop < 2 ^ s.cfg.ctrW

/-- The machine invariant: what every state that a run reaches satisfies, by the widths and bounds of 10_state.md. -/
abbrev Inv (s : State) : Prop :=
  ShapeInv s ∧ SpanInv s ∧ QueueInv s ∧ CodeInv s ∧ SetInv s ∧ CounterInv s

/-- The counter balance of R34 (a), (b), (c), modulo 2^CTR_W. -/
abbrev Accounting (s : State) : Prop :=
  s.ctrCand % 2 ^ s.cfg.ctrW = (s.ctrOk + s.ctrCkErr + s.ctrUnkDev + s.ctrMalf) % 2 ^ s.cfg.ctrW ∧
  ∀ snk ∈ s.sinks, snk.enq = s.ctrOk ∧
    snk.enq % 2 ^ s.cfg.ctrW = (snk.deliv + snk.sinkErr + snk.drop + snk.q.length) % 2 ^ s.cfg.ctrW

/-- R34 (d): HALTED means empty FIFOs; (e): outside RUN no span is in progress. -/
abbrev Quiet (s : State) : Prop :=
  (s.mode = .halted → allQueuesEmpty s = true) ∧ (s.mode ≠ .run → s.syncSt = .seekIdle ∧ s.cnt = 0)

/-- The logical byte a BYTE form stores, if it stores one (R108, R109). -/
def storedByte (c : Config) : Instr → Option Byte
  | .accumLiteral b => some b
  | .accEscEscLit => some c.sync0
  | _ => none

/-- The ReadingSet the next step produces, if it completes a frame and emits (R130, R140). -/
def producedBy (s : State) : List ReadingSet :=
  match fetch s with
  | .run i t =>
    match storedByte t.cfg i with
    | none => []
    | some v =>
      if (putByte v t).cnt.toNat = t.cfg.frameLen then
        match decodeCandidate t.cfg (putByte v t).buf (sampleTs t) with
        | .ok rs => [rs]
        | .error _ => []
      else []
  | _ => []

/-- The ReadingSet sink k takes in the next step, if that is a POP of sink k, OK or ERR (R161, R162). -/
def takenBy (k : Nat) (s : State) : List ReadingSet :=
  match fetch s with
  | .run (.popOk j) t => if j.toNat = k then (t.queue k).take 1 else []
  | .run (.popErr j) t => if j.toNat = k then (t.queue k).take 1 else []
  | _ => []

/-- The ReadingSets sink k loses in the next step: the oldest, dropped by a full FIFO (R160), or all of them, by RESET (R232). -/
def lostBy (k : Nat) (s : State) : List ReadingSet :=
  match fetch s with
  | .run .reset t => t.queue k
  | _ => if producedBy s ≠ [] ∧ (s.queue k).length = s.cfg.qDepth then (s.queue k).take 1 else []

/-- What a run did to sink k: the sets the sink took, those it lost, those the decode path produced, and the last state. -/
structure Trace where
  taken : List ReadingSet
  lost : List ReadingSet
  produced : List ReadingSet
  final : State
  deriving DecidableEq, Repr

/-- The trace of n steps for sink k; none if one of them is no step or a refusal. -/
def runTrace (k : Nat) : Nat → State → Option Trace
  | 0, s => some ⟨[], [], [], s⟩
  | n + 1, s =>
    match step s with
    | .next s' =>
      (runTrace k n s').map fun t =>
        ⟨takenBy k s ++ t.taken, lostBy k s ++ t.lost, producedBy s ++ t.produced, t.final⟩
    | _ => none

/-- Two states agree in everything but sink k (R164). -/
abbrev AgreeButSink (k : Nat) (s t : State) : Prop :=
  { s with sinks := [] } = { t with sinks := [] } ∧ ∀ j, j ≠ k → s.sinks[j]? = t.sinks[j]?

end Sys2Proof.Machine
end

