-- ==== Sys2Proof/Certificates/Slice0/Obligations.lean ====
section
/-! DEFINITION. The statements about VFSD for the provers. Each docstring names the rules of spec/ that the statement formalises, or
the log entry or the derived property it rests on. -/
open Sys2Proof
open Sys2Proof.Machine

/-- Encoding, both directions of agreement: every event form of an admitted configuration, encoded and decoded in a synchronizer
state that offers the form, is itself again, with every operand (30_encoding.md section 4 and 5). -/
def Obligations.DecodeEncodeAgree : Prop :=
  ∀ (c : Config) (st : SyncState) (i : Instr),
    c.wf = true → i.wf c = true → i.offeredIn st = true → decode c st (encode c i) = .ok i

/-- A word that decodes is the encoding of what it decodes to, and that form is well formed and offered in the state. -/
def Obligations.EncodeDecodeAgree : Prop :=
  ∀ (c : Config) (st : SyncState) (w : EventWord) (i : Instr),
    decode c st w = .ok i → encode c i = w ∧ i.wf c = true ∧ i.offeredIn st = true

/-- R87: the words that spell an event are exactly those of its table; every other word is reserved, and a step on it is a refusal. -/
def Obligations.ReservedWordsAreRefused : Prop :=
  (∀ (c : Config) (st : SyncState) (w : EventWord),
    (∃ i, decode c st w = .ok i) ↔
      (w.extractLsb' 12 4 = 1 ∧ w.extractLsb' 8 4 = 0) ∨
      (w.extractLsb' 12 4 = 2 ∧ w.extractLsb' 1 7 = 0 ∧ (w.extractLsb' 8 4).toNat < c.nSinks) ∨
      w = 0x3000 ∨ w = 0x4000 ∨ w = 0x5000) ∧
  ∀ (s : State) (o : Offer) (rest : List Offer) (r : ReservedWord),
    s.cfg.wf = true → s.pending = o :: rest → decode s.cfg s.syncSt o.word = .error r →
      step s = .refused (.reservedWord r)

/-- R81 to R85: the words of the events, with every byte and every sink index. -/
def Obligations.EventWordsParse : Prop :=
  ∀ (c : Config),
    (∀ b : Byte, parseEvent c (0x1000 ||| b.setWidth 16) = .ok (.byte b)) ∧
    (∀ k : BitVec 4, k.toNat < c.nSinks →
      parseEvent c (0x2000 ||| (k.setWidth 16 <<< 8)) = .ok (.popOk k) ∧
      parseEvent c (0x2000 ||| (k.setWidth 16 <<< 8) ||| 1) = .ok (.popErr k)) ∧
    parseEvent c 0x3000 = .ok .xportErr ∧ parseEvent c 0x4000 = .ok .shutdown ∧ parseEvent c 0x5000 = .ok .reset

/-- R90: the form of a BYTE event in each synchronizer state. Under an admitted configuration the tests exclude each other, so each
row is stated without an order. -/
def Obligations.ByteClassesPerState : Prop :=
  ∀ (c : Config) (b : Byte), c.wf = true →
    (b = c.sync0 → classifyByte c .seekIdle b = .seekIdleSync0) ∧
    (b ≠ c.sync0 → classifyByte c .seekIdle b = .seekIdleNoise b) ∧
    (b = c.sync1 → classifyByte c .seekS1 b = .seekS1Sync1) ∧
    (b = c.sync0 → classifyByte c .seekS1 b = .seekS1Sync0) ∧
    (b ≠ c.sync0 → b ≠ c.sync1 → classifyByte c .seekS1 b = .seekS1Noise b) ∧
    (b = c.sync0 → classifyByte c .accum b = .accumEscLead) ∧
    (b ≠ c.sync0 → classifyByte c .accum b = .accumLiteral b) ∧
    (b = c.escLit → classifyByte c .accEsc b = .accEscEscLit) ∧
    (b = c.sync1 → classifyByte c .accEsc b = .accEscSync1) ∧
    (b = c.sync0 → classifyByte c .accEsc b = .accEscSync0) ∧
    (b ≠ c.escLit → b ≠ c.sync1 → b ≠ c.sync0 → classifyByte c .accEsc b = .accEscBad b)

/-- Words written out from the spec's encodings decode to the events they stand for, under the default configuration
(95_test_vectors.md L2.5 and L2.1). A sanity statement. -/
def Obligations.SpecWordsDecode : Prop :=
  decode Config.default .seekIdle 0x10AA = .ok .seekIdleSync0 ∧
  decode Config.default .seekS1 0x1055 = .ok .seekS1Sync1 ∧
  decode Config.default .accum 0x1055 = .ok (.accumLiteral 0x55) ∧
  decode Config.default .accEsc 0x1000 = .ok .accEscEscLit ∧
  decode Config.default .seekIdle 0x2101 = .ok (.popErr 1) ∧
  decode Config.default .accum 0x2000 = .ok (.popOk 0) ∧
  decode Config.default .seekIdle 0x3000 = .ok .xportErr ∧
  decode Config.default .seekIdle 0x4000 = .ok .shutdown ∧
  decode Config.default .accEsc 0x5000 = .ok .reset

/-- A step runs the decoded instruction: the event at the head of the offers is taken, its TS value stands on the TS input, and exec
runs what its word decodes to in the present synchronizer state (00_scope.md R12, R13). With no event offered the block waits, it has
no step (60_exceptions.md R212). The list of offers is the model's form of the interleaving (log entry 2), and so is the fault's name
(log entry 7). -/
def Obligations.StepRunsDecodedInstruction : Prop :=
  (∀ (s : State) (o : Offer) (rest : List Offer) (i : Instr),
    s.cfg.wf = true → s.pending = o :: rest → decode s.cfg s.syncSt o.word = .ok i →
      step s = exec i { s with tsIn := o.ts, pending := rest }) ∧
  ∀ s : State, s.cfg.wf = true → s.pending = [] → step s = .fault .noEventOffered

/-- R6: a configuration that breaks one of R6's conditions is refused before any event, whatever is offered. -/
def Obligations.OnlyAdmittedConfigurationsRun : Prop :=
  ∀ s : State,
    ¬ (s.cfg.sync0 ≠ s.cfg.sync1 ∧ s.cfg.sync0 ≠ s.cfg.escLit ∧ s.cfg.sync1 ≠ s.cfg.escLit ∧
      1 ≤ s.cfg.qDepth ∧ s.cfg.qDepth ≤ 255 ∧ 1 ≤ s.cfg.nSinks ∧ s.cfg.nSinks ≤ 16 ∧ s.cfg.frameLen ≤ 255 ∧
      ∀ e ∈ s.cfg.table,
        e.hdr.extractLsb' 60 3 = 0 ∧ e.hdr.extractLsb' 24 24 = 0 ∧ e.descs.length = s.cfg.maxFields) →
    step s = .refused .illFormedConfig

/-- R100: BYTE has no step outside RUN; in RUN it counts one wire byte and takes the sub-rule of SYNC_ST and b. -/
def Obligations.ByteCommonPart : Prop :=
  ∀ (s : State) (b : Byte) (ts : Nat) (rest : List Offer),
    s.cfg.wf = true → s.pending = ⟨0x1000 ||| b.setWidth 16, ts⟩ :: rest →
      (s.mode ≠ .run → step s = .fault .byteOutsideRun) ∧
      (s.mode = .run →
        ∃ t, step s = .next t ∧ t.ctrBytes = (s.ctrBytes + 1) % 2 ^ s.cfg.ctrW ∧
          .next t = exec
            (match s.syncSt with
              | .seekIdle => if b = s.cfg.sync0 then .seekIdleSync0 else .seekIdleNoise b
              | .seekS1 =>
                if b = s.cfg.sync1 then .seekS1Sync1 else if b = s.cfg.sync0 then .seekS1Sync0 else .seekS1Noise b
              | .accum => if b = s.cfg.sync0 then .accumEscLead else .accumLiteral b
              | .accEsc =>
                if b = s.cfg.escLit then .accEscEscLit else if b = s.cfg.sync1 then .accEscSync1
                else if b = s.cfg.sync0 then .accEscSync0 else .accEscBad b)
            { s with tsIn := ts, pending := rest })

/-- R102, R103: the two forms of SEEK_IDLE, whole: only SYNC_ST and CTR_BYTES change. -/
def Obligations.SeekIdleResults : Prop :=
  ∀ s : State, s.mode = .run → s.syncSt = .seekIdle →
    exec .seekIdleSync0 s =
      .next { s with ctrBytes := (s.ctrBytes + 1) % 2 ^ s.cfg.ctrW, syncSt := .seekS1 } ∧
    ∀ b : Byte, b ≠ s.cfg.sync0 →
      exec (.seekIdleNoise b) s =
        .next { s with ctrBytes := (s.ctrBytes + 1) % 2 ^ s.cfg.ctrW, syncSt := .seekIdle }

/-- R105, R106: the repeated lead and noise in SEEK_S1. -/
def Obligations.SeekS1Results : Prop :=
  ∀ s : State, s.mode = .run → s.syncSt = .seekS1 →
    exec .seekS1Sync0 s =
      .next { s with ctrBytes := (s.ctrBytes + 1) % 2 ^ s.cfg.ctrW, syncSt := .seekS1 } ∧
    ∀ b : Byte, b ≠ s.cfg.sync0 → b ≠ s.cfg.sync1 →
      exec (.seekS1Noise b) s =
        .next { s with ctrBytes := (s.ctrBytes + 1) % 2 ^ s.cfg.ctrW, syncSt := .seekIdle }

/-- R104 with R101: the completed sentinel starts a frame, and no other event enters ACCUMULATING_FRAME from SEEKING_SENTINEL. -/
def Obligations.SentinelStartsFrame : Prop :=
  (∀ s : State, s.mode = .run → s.syncSt = .seekS1 →
    exec .seekS1Sync1 s =
      .next { s with
        ctrBytes := (s.ctrBytes + 1) % 2 ^ s.cfg.ctrW, buf := (s.buf.set 0 s.cfg.sync0).set 1 s.cfg.sync1,
        cnt := 2, syncSt := .accum }) ∧
  ∀ (s t : State) (i : Instr), exec i s = .next t → ¬ inFrame s → inFrame t → i = .seekS1Sync1

/-- R107: an escape lead inside a frame only moves to ACC_ESC; nothing is stored, at whatever CNT. -/
def Obligations.EscapeLeadIsHeld : Prop :=
  ∀ s : State, s.mode = .run → s.syncSt = .accum →
    exec .accumEscLead s =
      .next { s with ctrBytes := (s.ctrBytes + 1) % 2 ^ s.cfg.ctrW, syncSt := .accEsc }

/-- R108, R109, R113: a literal byte, or the escaped SYNC0, is stored at CNT; the FRAME_LEN-th one completes the candidate in the same
step and leaves SEEK_IDLE with CNT = 0. -/
def Obligations.LogicalByteIsStored : Prop :=
  ∀ (s : State) (i : Instr) (v : Byte), s.mode = .run →
    (s.syncSt = .accum ∧ v ≠ s.cfg.sync0 ∧ i = .accumLiteral v ∨
      s.syncSt = .accEsc ∧ v = s.cfg.sync0 ∧ i = .accEscEscLit) →
    ((s.cnt + 1).toNat ≠ s.cfg.frameLen →
      exec i s = .next { s with
        ctrBytes := (s.ctrBytes + 1) % 2 ^ s.cfg.ctrW, buf := s.buf.set s.cnt.toNat v, cnt := s.cnt + 1,
        syncSt := .accum }) ∧
    ((s.cnt + 1).toNat = s.cfg.frameLen →
      exec i s = .next { complete { s with
          ctrBytes := (s.ctrBytes + 1) % 2 ^ s.cfg.ctrW, buf := s.buf.set s.cnt.toNat v, cnt := s.cnt + 1 } with
        cnt := 0, syncSt := .seekIdle })

/-- R110: an embedded sentinel raises TruncatedFrame and opens a new candidate at once; no candidate is counted. -/
def Obligations.EmbeddedSentinelTruncates : Prop :=
  ∀ s : State, s.mode = .run → s.syncSt = .accEsc →
    exec .accEscSync1 s = .next { s with
      ctrBytes := (s.ctrBytes + 1) % 2 ^ s.cfg.ctrW, ctrTrunc := (s.ctrTrunc + 1) % 2 ^ s.cfg.ctrW, lastErr := 4,
      buf := (s.buf.set 0 s.cfg.sync0).set 1 s.cfg.sync1, cnt := 2, syncSt := .accum }

/-- R111, R112: the two bad escapes raise EscapeError and drop the span; a second SYNC0 may lead a sentinel. -/
def Obligations.BadEscapeResults : Prop :=
  ∀ s : State, s.mode = .run → s.syncSt = .accEsc →
    exec .accEscSync0 s = .next { s with
      ctrBytes := (s.ctrBytes + 1) % 2 ^ s.cfg.ctrW, ctrEscErr := (s.ctrEscErr + 1) % 2 ^ s.cfg.ctrW, lastErr := 5,
      cnt := 0, syncSt := .seekS1 } ∧
    ∀ b : Byte, b ≠ s.cfg.escLit → b ≠ s.cfg.sync1 → b ≠ s.cfg.sync0 →
      exec (.accEscBad b) s = .next { s with
        ctrBytes := (s.ctrBytes + 1) % 2 ^ s.cfg.ctrW, ctrEscErr := (s.ctrEscErr + 1) % 2 ^ s.cfg.ctrW, lastErr := 5,
        cnt := 0, syncSt := .seekIdle }

/-- Where a BYTE form stops: outside RUN every form has no step (40_synchronizer.md section 1); in RUN a form that SYNC_ST or the
byte's class does not select is refused, which is the model's choice (log entry 9). -/
def Obligations.ByteFormStops : Prop :=
  ∀ (s : State) (i : Instr), i.isByte = true →
    (s.mode ≠ .run → exec i s = .fault .byteOutsideRun) ∧
    (s.mode = .run → (i.offeredIn s.syncSt = false ∨ i.wf s.cfg = false) → exec i s = .refused .notThisByteForm)

/-- R130 with R140, at the sizes R130 writes out (SRC_LEN = 1, CMD_LEN = 2; every size is in SetKeysAreExact): a completion counts the
candidate and then takes the first of four outcomes: ChecksumError; with src = BUF[2] and cmd = BUF[3] + 256 · BUF[4] UnknownDeviceError;
MalformedPayloadError; or CTR_OK counted and the ReadingSet offered to every sink, its N = NF readings in descriptor order, read from
P[i] = BUF[5 + i], with the TS sample. -/
def Obligations.CompletionPhases : Prop :=
  ∀ s : State, s.cfg.wf = true → s.buf.length = s.cfg.frameLen → s.cfg.srcLen = 1 → s.cfg.cmdLen = 2 →
    let src : Nat := (bufByte s.buf 2).toNat
    let cmd : Nat := (bufByte s.buf 3).toNat + 256 * (bufByte s.buf 4).toNat
    let p : List Byte := (List.range s.cfg.payloadLen).map fun i => bufByte s.buf (5 + i)
    (checksumOk s.cfg s.buf = false →
      complete s = { s with
        ctrCand := (s.ctrCand + 1) % 2 ^ s.cfg.ctrW, ctrCkErr := (s.ctrCkErr + 1) % 2 ^ s.cfg.ctrW, lastErr := 1 }) ∧
    (checksumOk s.cfg s.buf = true → lookupEntry s.cfg src cmd = none →
      complete s = { s with
        ctrCand := (s.ctrCand + 1) % 2 ^ s.cfg.ctrW, ctrUnkDev := (s.ctrUnkDev + 1) % 2 ^ s.cfg.ctrW, lastErr := 2 }) ∧
    ∀ e : Entry, checksumOk s.cfg s.buf = true → lookupEntry s.cfg src cmd = some e →
      (payloadOk s.cfg e = false →
        complete s = { s with
          ctrCand := (s.ctrCand + 1) % 2 ^ s.cfg.ctrW, ctrMalf := (s.ctrMalf + 1) % 2 ^ s.cfg.ctrW, lastErr := 3 }) ∧
      (payloadOk s.cfg e = true →
        complete s = dispatch
          { src := bufByte s.buf 2, cmd := bufByte s.buf 4 ++ bufByte s.buf 3, ts := s.tsIn % 2 ^ s.cfg.tsW,
            readings := (List.range (e.hdr.extractLsb' 56 4).toNat).map fun j =>
              let d : BitVec 32 := e.descs.getD j 0
              { raw := raw32 p d, div := d.extractLsb' 16 16, sgn := d.getLsbD 10,
                kind := if d.getLsbD 11 then .pumpSpeed else .temperature, chan := d.extractLsb' 12 4 } }
          { s with ctrCand := (s.ctrCand + 1) % 2 ^ s.cfg.ctrW, ctrOk := (s.ctrOk + 1) % 2 ^ s.cfg.ctrW })

/-- The completion at every SRC_LEN and CMD_LEN, the model's reading (log entry 11, DEDUCED): the same four outcomes with the keys and
the payload at their general offsets. The set a candidate gives is exact: SRC and CMD are the numbers read from the frame, no bit lost,
its entry is the one looked up, N is the entry's NF, and reading j comes from descriptor j. -/
def Obligations.SetKeysAreExact : Prop :=
  (∀ s : State,
    (checksumOk s.cfg s.buf = false →
      complete s = { s with
        ctrCand := (s.ctrCand + 1) % 2 ^ s.cfg.ctrW, ctrCkErr := (s.ctrCkErr + 1) % 2 ^ s.cfg.ctrW, lastErr := 1 }) ∧
    (checksumOk s.cfg s.buf = true → lookupEntry s.cfg (srcOf s.cfg s.buf) (cmdOf s.cfg s.buf) = none →
      complete s = { s with
        ctrCand := (s.ctrCand + 1) % 2 ^ s.cfg.ctrW, ctrUnkDev := (s.ctrUnkDev + 1) % 2 ^ s.cfg.ctrW, lastErr := 2 }) ∧
    ∀ e : Entry, checksumOk s.cfg s.buf = true →
      lookupEntry s.cfg (srcOf s.cfg s.buf) (cmdOf s.cfg s.buf) = some e →
      (payloadOk s.cfg e = false →
        complete s = { s with
          ctrCand := (s.ctrCand + 1) % 2 ^ s.cfg.ctrW, ctrMalf := (s.ctrMalf + 1) % 2 ^ s.cfg.ctrW, lastErr := 3 }) ∧
      (payloadOk s.cfg e = true →
        complete s = dispatch
          { src := BitVec.ofNat 8 (srcOf s.cfg s.buf), cmd := BitVec.ofNat 16 (cmdOf s.cfg s.buf),
            ts := s.tsIn % 2 ^ s.cfg.tsW,
            readings := (usedDescs e).map fun d =>
              { raw := raw32 (payload s.cfg s.buf) d, div := descDiv d, sgn := descSgn d,
                kind := if descKind d then .pumpSpeed else .temperature, chan := descChan d } }
          { s with ctrCand := (s.ctrCand + 1) % 2 ^ s.cfg.ctrW, ctrOk := (s.ctrOk + 1) % 2 ^ s.cfg.ctrW })) ∧
  ∀ (c : Config) (buf : List Byte) (ts : Nat) (rs : ReadingSet), decodeCandidate c buf ts = .ok rs →
    rs.src.toNat = srcOf c buf ∧ rs.cmd.toNat = cmdOf c buf ∧ rs.ts = ts ∧
    ∃ e ∈ c.table, lookupEntry c (srcOf c buf) (cmdOf c buf) = some e ∧
      hdrValid e.hdr = true ∧ hdrSrc e.hdr = rs.src ∧ hdrCmd e.hdr = rs.cmd ∧
      rs.readings.length ≤ (hdrNf e.hdr).toNat ∧ (c.wf = true → rs.readings.length = (hdrNf e.hdr).toNat) ∧
      ∀ (j : Nat) (d : BitVec 32), j < (hdrNf e.hdr).toNat → e.descs[j]? = some d →
        ∃ r, rs.readings[j]? = some r ∧ r.raw = raw32 (payload c buf) d ∧ r.div = descDiv d ∧ r.sgn = descSgn d ∧
          (r.kind = .pumpSpeed ↔ descKind d = true) ∧ r.chan = descChan d

/-- R131, R132, R133: the checksum covers all bytes of the candidate but the last, which it must equal; ADD8 is the sum modulo 256,
XOR8 the exclusive-or, 0 for no bytes; the error counts in CTR_CKERR and writes code 1. -/
def Obligations.ChecksumAlgorithms : Prop :=
  (∀ (c : Config) (buf : List Byte), checksumOk c buf = true ↔
    (match c.ckAlg with
      | .add8 => ckAdd8 (buf.take (c.frameLen - 1))
      | .xor8 => ckXor8 (buf.take (c.frameLen - 1))) = bufByte buf (c.frameLen - 1)) ∧
  (∀ bs : List Byte, (ckAdd8 bs).toNat = (bs.map BitVec.toNat).sum % 256) ∧
  ckXor8 [] = 0 ∧ (∀ (b : Byte) (bs : List Byte), ckXor8 (b :: bs) = b ^^^ ckXor8 bs) ∧
  ∀ s : State, raiseErr .checksumError s = { s with ctrCkErr := (s.ctrCkErr + 1) % 2 ^ s.cfg.ctrW, lastErr := 1 }

/-- R134: lookup gives the entry of lowest index whose VALID is 1 and whose keys are src and cmd, and none exactly when there is no
such entry; the error counts in CTR_UNKDEV and writes code 2. -/
def Obligations.LookupTakesLowestIndex : Prop :=
  (∀ s : State, raiseErr .unknownDeviceError s =
    { s with ctrUnkDev := (s.ctrUnkDev + 1) % 2 ^ s.cfg.ctrW, lastErr := 2 }) ∧
  ∀ (c : Config) (src cmd : Nat),
    (∀ e : Entry, lookupEntry c src cmd = some e ↔
      ∃ n : Nat, c.table[n]? = some e ∧ e.hdr.getLsbD 63 = true ∧ (e.hdr.extractLsb' 16 8).toNat = src ∧
        (e.hdr.extractLsb' 0 16).toNat = cmd ∧
        ∀ (m : Nat) (e' : Entry), m < n → c.table[m]? = some e' →
          ¬ (e'.hdr.getLsbD 63 = true ∧ (e'.hdr.extractLsb' 16 8).toNat = src ∧ (e'.hdr.extractLsb' 0 16).toNat = cmd)) ∧
    (lookupEntry c src cmd = none ↔
      ∀ e ∈ c.table,
        ¬ (e.hdr.getLsbD 63 = true ∧ (e.hdr.extractLsb' 16 8).toNat = src ∧ (e.hdr.extractLsb' 0 16).toNat = cmd))

/-- payload_ok of R135: PLEN is PAYLOAD_LEN, and each of the NF fields has a width of 1, 2 or 4 bytes, a divisor other than 0, and
lies inside the payload; the error counts in CTR_MALF and writes code 3. -/
def Obligations.PayloadCheckIsExact : Prop :=
  (∀ s : State, raiseErr .malformedPayloadError s =
    { s with ctrMalf := (s.ctrMalf + 1) % 2 ^ s.cfg.ctrW, lastErr := 3 }) ∧
  ∀ (c : Config) (e : Entry),
    payloadOk c e = true ↔
      (e.hdr.extractLsb' 48 8).toNat = c.payloadLen ∧
      ∀ (j : Nat) (d : BitVec 32), j < (e.hdr.extractLsb' 56 4).toNat → e.descs[j]? = some d →
        d.extractLsb' 16 16 ≠ 0 ∧
        (d.extractLsb' 8 2 = 0 ∧ (d.extractLsb' 0 8).toNat + 1 ≤ c.payloadLen ∨
          d.extractLsb' 8 2 = 1 ∧ (d.extractLsb' 0 8).toNat + 2 ≤ c.payloadLen ∨
          d.extractLsb' 8 2 = 2 ∧ (d.extractLsb' 0 8).toNat + 4 ≤ c.payloadLen)

/-- R137: the field bits of 1, 2 or 4 bytes, extended to 32 bits: read as a signed word the two's complement value of the field when
SGN = 1, read unsigned the field itself when SGN = 0. -/
def Obligations.RawKeepsTheFieldsValue : Prop :=
  ∀ (p : List Byte) (d : BitVec 32), descWc d ≠ 3 →
    fieldBits p d < 2 ^ (8 * descWidth d) ∧
    (descSgn d = true → (raw32 p d).toInt =
      if fieldBits p d < 2 ^ (8 * descWidth d - 1) then (fieldBits p d : Int)
      else (fieldBits p d : Int) - 2 ^ (8 * descWidth d)) ∧
    (descSgn d = false → (raw32 p d).toNat = fieldBits p d)

/-- R136: a field's bits are Σ P[OFF + i] · 2^(8i), the lower offset less significant, for a field inside the payload. -/
def Obligations.FieldBitsAreLittleEndian : Prop :=
  ∀ (p : List Byte) (d : BitVec 32), (descOff d).toNat + descWidth d ≤ p.length →
    fieldBits p d = ((List.range (descWidth d)).map fun i => (p.getD ((descOff d).toNat + i) 0).toNat * 2 ^ (8 * i)).sum

/-- R138: the value times DIV is int(RAW), read signed or unsigned by SGN; raw 0x01F4 with DIV 10 is 50. -/
def Obligations.ReadingValueIsExact : Prop :=
  (∀ r : Reading, r.div ≠ 0 →
    readingValue r * (r.div.toNat : Rat) = ((if r.sgn then r.raw.toInt else (r.raw.toNat : Int) : Int) : Rat)) ∧
  ∀ k ch, readingValue ⟨0x1F4, 10, true, k, ch⟩ = 50

/-- R160: every sink counts the offer and gets its copy at the tail; a full FIFO drops its oldest entry and counts the drop; nothing
else changes. -/
def Obligations.DispatchOffersToEverySink : Prop :=
  ∀ (rs : ReadingSet) (s : State),
    { dispatch rs s with sinks := s.sinks } = s ∧
    ∀ k : Nat, (dispatch rs s).sinks[k]? = s.sinks[k]?.map fun snk =>
      if snk.q.length = s.cfg.qDepth then
        { snk with
          q := snk.q.drop 1 ++ [rs], enq := (snk.enq + 1) % 2 ^ s.cfg.ctrW, drop := (snk.drop + 1) % 2 ^ s.cfg.ctrW }
      else { snk with q := snk.q ++ [rs], enq := (snk.enq + 1) % 2 ^ s.cfg.ctrW }

/-- R161: POP k OK, in every MODE: refused for k ≥ N_SINKS; no step on an empty FIFO; else sink k receives q_data[k], the head is
removed, CTR_DELIV[k] counts, and the drain is checked. -/
def Obligations.PopOkResult : Prop :=
  ∀ (s : State) (k : BitVec 4),
    (s.cfg.nSinks ≤ k.toNat → exec (.popOk k) s = .refused (.reservedWord .popSink)) ∧
    (k.toNat < s.cfg.nSinks → s.queue k.toNat = [] → exec (.popOk k) s = .fault .popEmpty) ∧
    ∀ snk rs rest, k.toNat < s.cfg.nSinks → s.sinks[k.toNat]? = some snk → snk.q = rs :: rest →
      qData s k.toNat = .ok rs ∧ exec (.popOk k) s = .next (drainCheck { s with
        sinks := s.sinks.set k.toNat { snk with q := rest, deliv := (snk.deliv + 1) % 2 ^ s.cfg.ctrW } })

/-- R162: POP k ERR has the enabling conditions of R161; the head is removed and CTR_SINKERR[k] counts; LAST_ERR is unchanged. -/
def Obligations.PopErrResult : Prop :=
  ∀ (s : State) (k : BitVec 4),
    (s.cfg.nSinks ≤ k.toNat → exec (.popErr k) s = .refused (.reservedWord .popSink)) ∧
    (k.toNat < s.cfg.nSinks → s.queue k.toNat = [] → exec (.popErr k) s = .fault .popEmpty) ∧
    ∀ snk rs rest, k.toNat < s.cfg.nSinks → s.sinks[k.toNat]? = some snk → snk.q = rs :: rest →
      exec (.popErr k) s = .next (drainCheck { s with
        sinks := s.sinks.set k.toNat { snk with q := rest, sinkErr := (snk.sinkErr + 1) % 2 ^ s.cfg.ctrW } })

/-- R163: at the end of a POP, CLOSING becomes HALTED exactly when every FIFO is empty; in every other case MODE stays. -/
def Obligations.LastPopHalts : Prop :=
  ∀ (s t : State) (k : BitVec 4) (i : Instr), (i = .popOk k ∨ i = .popErr k) → exec i s = .next t →
    (s.mode = .closing → (∀ snk ∈ t.sinks, snk.q = []) → t.mode = .halted) ∧
    (s.mode = .closing → (∃ snk ∈ t.sinks, snk.q ≠ []) → t.mode = .closing) ∧
    (s.mode ≠ .closing → t.mode = s.mode)

/-- What a POP leaves unchanged (42_dispatcher.md section 3, R164 derived there): the decode path, BUF, LAST_ERR, and every other
sink. -/
def Obligations.PopFrame : Prop :=
  ∀ (s t : State) (k : BitVec 4) (i : Instr), (i = .popOk k ∨ i = .popErr k) → exec i s = .next t →
    { t with sinks := s.sinks, mode := s.mode } = s ∧
    (∀ a, bufByte t.buf a = bufByte s.buf a) ∧
    (∀ j, j ≠ k.toNat → t.sinks[j]? = s.sinks[j]?) ∧
    ∀ snk, s.sinks[k.toNat]? = some snk → ∃ snk', t.sinks[k.toNat]? = some snk' ∧ snk'.enq = snk.enq ∧ snk'.drop = snk.drop

/-- What a storing BYTE form leaves unchanged: every BUF byte but the one at CNT, MODE, the configuration, the truncation and escape
counters, the inputs, and what only the sinks write (20_memory.md R57). -/
def Obligations.StoringFormFrame : Prop :=
  ∀ (s t : State) (i : Instr) (b : Byte), (i = .accumLiteral b ∨ i = .accEscEscLit) → exec i s = .next t →
    (∀ a, a ≠ s.cnt.toNat → bufByte t.buf a = bufByte s.buf a) ∧
    t.cfg = s.cfg ∧ t.mode = s.mode ∧ t.ctrTrunc = s.ctrTrunc ∧ t.ctrEscErr = s.ctrEscErr ∧
    t.tsIn = s.tsIn ∧ t.pending = s.pending ∧ t.draws = s.draws ∧ t.sinks.length = s.sinks.length ∧
    ((s.cnt + 1).toNat ≠ s.cfg.frameLen →
      t.sinks = s.sinks ∧ t.lastErr = s.lastErr ∧ t.ctrCand = s.ctrCand ∧ t.ctrOk = s.ctrOk ∧
      t.ctrCkErr = s.ctrCkErr ∧ t.ctrUnkDev = s.ctrUnkDev ∧ t.ctrMalf = s.ctrMalf) ∧
    ∀ (k : Nat) (snk snk' : Sink), s.sinks[k]? = some snk → t.sinks[k]? = some snk' →
      snk'.deliv = snk.deliv ∧ snk'.sinkErr = snk.sinkErr

/-- What the other BYTE forms leave unchanged: the sinks, the decoder's counters, the configuration, MODE and the inputs; BUF from
offset 2 on, and all of BUF unless the form starts a frame. -/
def Obligations.NonStoringFormFrame : Prop :=
  ∀ (s t : State) (i : Instr), i.isByte = true → storedByte s.cfg i = none → exec i s = .next t →
    t.sinks = s.sinks ∧ t.cfg = s.cfg ∧ t.mode = s.mode ∧ t.ctrCand = s.ctrCand ∧ t.ctrOk = s.ctrOk ∧
    t.ctrCkErr = s.ctrCkErr ∧ t.ctrUnkDev = s.ctrUnkDev ∧ t.ctrMalf = s.ctrMalf ∧
    t.tsIn = s.tsIn ∧ t.pending = s.pending ∧ t.draws = s.draws ∧
    (∀ a, 2 ≤ a → bufByte t.buf a = bufByte s.buf a) ∧
    (i ≠ .seekS1Sync1 → i ≠ .accEscSync1 → ∀ a, bufByte t.buf a = bufByte s.buf a) ∧
    (i ≠ .accEscSync1 → t.ctrTrunc = s.ctrTrunc) ∧
    (i ≠ .accEscSync0 → (∀ b, i ≠ .accEscBad b) → t.ctrEscErr = s.ctrEscErr) ∧
    (i.formState ≠ some .accEsc → t.lastErr = s.lastErr)

/-- R180: XPORT_ERR in RUN drops the span, writes LAST_ERR = 7 and makes the block FATAL, and changes nothing else; outside RUN it
has no step; in FATAL only POP and RESET have a step, and POP does not change MODE. -/
def Obligations.TransportErrorResult : Prop :=
  ∀ s : State,
    (s.mode = .run →
      exec .xportErr s = .next { s with cnt := 0, syncSt := .seekIdle, lastErr := 7, mode := .fatal }) ∧
    (s.mode ≠ .run → exec .xportErr s = .fault .xportErrOutsideRun) ∧
    ∀ (i : Instr) (t : State), s.mode = .fatal → exec i s = .next t →
      i = .reset ∨ (∃ k, i = .popOk k ∨ i = .popErr k) ∧ t.mode = .fatal

/-- R181: SHUTDOWN in RUN drops the span uncounted and goes to HALTED when every FIFO is empty, else to CLOSING; outside RUN it has
no step. -/
def Obligations.ShutdownResult : Prop :=
  ∀ s : State,
    (s.mode = .run → (∀ snk ∈ s.sinks, snk.q = []) →
      exec .shutdown s = .next { s with cnt := 0, syncSt := .seekIdle, mode := .halted }) ∧
    (s.mode = .run → (∃ snk ∈ s.sinks, snk.q ≠ []) →
      exec .shutdown s = .next { s with cnt := 0, syncSt := .seekIdle, mode := .closing }) ∧
    (s.mode ≠ .run → exec .shutdown s = .fault .shutdownOutsideRun)

/-- R182 with the values of R35: RESET has a step in every MODE; every element takes its reset value, BUF holds FRAME_LEN bytes of
which nothing more is said, and the configuration stays; it is the only way out of FATAL and out of HALTED; power-on is a RESET, up to
BUF and the model's count of draws. -/
def Obligations.ResetResult : Prop :=
  (∀ s : State, ∃ t, exec .reset s = .next t ∧
    t.mode = .run ∧ t.syncSt = .seekIdle ∧ t.cnt = 0 ∧ t.buf.length = s.cfg.frameLen ∧ t.lastErr = 0 ∧
    t.ctrBytes = 0 ∧ t.ctrCand = 0 ∧ t.ctrOk = 0 ∧ t.ctrCkErr = 0 ∧ t.ctrUnkDev = 0 ∧ t.ctrMalf = 0 ∧
    t.ctrTrunc = 0 ∧ t.ctrEscErr = 0 ∧
    t.sinks = List.replicate s.cfg.nSinks { q := [], enq := 0, deliv := 0, sinkErr := 0, drop := 0 } ∧ t.cfg = s.cfg) ∧
  (∀ (s t : State) (i : Instr), (s.mode = .fatal ∨ s.mode = .halted) → exec i s = .next t → t.mode ≠ s.mode → i = .reset) ∧
  ∀ (c : Config) (t : State), exec .reset (State.powerOn c) = .next t →
    { State.powerOn c with buf := t.buf, draws := t.draws } = t

/-- What no instruction touches but by the model's own rule (log entries 2 and 6): the TS input and the offers left stay as they are,
RESET included, and only RESET draws a free value. -/
def Obligations.InputsStay : Prop :=
  ∀ (s t : State) (i : Instr), exec i s = .next t →
    t.tsIn = s.tsIn ∧ t.pending = s.pending ∧ (i ≠ .reset → t.draws = s.draws) ∧ (i = .reset → t.draws = s.draws + 1)

/-- Power-on (10_state.md section 6): the elements R35 gives a value have it. BUF and the model's own fields are not named. -/
def Obligations.PowerOnValues : Prop :=
  State.reset.mode = .run ∧ State.reset.syncSt = .seekIdle ∧ State.reset.cnt = 0 ∧ State.reset.lastErr = 0 ∧
  State.reset.ctrBytes = 0 ∧ State.reset.ctrCand = 0 ∧ State.reset.ctrOk = 0 ∧ State.reset.ctrCkErr = 0 ∧
  State.reset.ctrUnkDev = 0 ∧ State.reset.ctrMalf = 0 ∧ State.reset.ctrTrunc = 0 ∧ State.reset.ctrEscErr = 0 ∧
  State.reset.sinks = [⟨[], 0, 0, 0, 0⟩, ⟨[], 0, 0, 0, 0⟩] ∧ State.reset.buf.length = 23

/-- The machine invariant (10_state.md R23, R24, R26, R28, R29 between steps): every step keeps it, from every state that has it. -/
def Obligations.StepKeepsInv : Prop :=
  ∀ s t : State, Inv s → step s = .next t → Inv t

/-- The state after reset, and the power-on state of every admitted configuration, meet the machine invariant, the counter balance and the quiet rule. -/
def Obligations.PowerOnMeetsInvariants : Prop :=
  (Inv State.reset ∧ Accounting State.reset ∧ Quiet State.reset) ∧
  ∀ c : Config, c.wf = true → Inv (State.powerOn c) ∧ Accounting (State.powerOn c) ∧ Quiet (State.powerOn c)

/-- R34 (a), (b), (c), which the spec derives: every step keeps the counter balance modulo 2^CTR_W. -/
def Obligations.StepKeepsAccounting : Prop :=
  ∀ s t : State, Accounting s → step s = .next t → Accounting t

/-- R34 (d), (e), which the spec derives: HALTED means empty FIFOs, and outside RUN no span is in progress; every step keeps both. -/
def Obligations.StepKeepsQuiet : Prop :=
  ∀ s t : State, Quiet s → step s = .next t → Quiet t

/-- R31: no event, RESET included, writes the configuration. -/
def Obligations.ConfigurationIsConstant : Prop :=
  ∀ (s t : State) (i : Instr), exec i s = .next t → t.cfg = s.cfg

/-- The synchronizer never stalls (40_synchronizer.md section 4, R118 derived there): in RUN every BYTE has a step, and the next state
is still in RUN. -/
def Obligations.SynchronizerNeverStalls : Prop :=
  ∀ (s : State) (o : Offer) (rest : List Offer) (b : Byte),
    s.cfg.wf = true → s.mode = .run → s.pending = o :: rest → o.word = 0x1000 ||| b.setWidth 16 →
      ∃ t, step s = .next t ∧ t.mode = .run ∧ t.pending = rest

/-- A step raises at most one error (60_exceptions.md section 3, R203 derived there): of the seven errors of R200 (the five frame-level
counters, the counters CTR_SINKERR, and the entry into FATAL), at most one shows in a step that is not RESET. -/
def Obligations.AtMostOneErrorPerStep : Prop :=
  ∀ (s t : State) (i : Instr), i ≠ .reset → exec i s = .next t →
    [decide (t.ctrCkErr ≠ s.ctrCkErr), decide (t.ctrUnkDev ≠ s.ctrUnkDev), decide (t.ctrMalf ≠ s.ctrMalf),
      decide (t.ctrTrunc ≠ s.ctrTrunc), decide (t.ctrEscErr ≠ s.ctrEscErr),
      decide (t.sinks.map Sink.sinkErr ≠ s.sinks.map Sink.sinkErr),
      decide (t.mode = .fatal ∧ s.mode ≠ .fatal)].count true ≤ 1 ∧
    ∀ j k : Nat, j < k → (t.sinks[j]?.map Sink.sinkErr ≠ s.sinks[j]?.map Sink.sinkErr) →
      t.sinks[k]?.map Sink.sinkErr = s.sinks[k]?.map Sink.sinkErr

/-- An unverified candidate is never promoted (60_exceptions.md R204): a step that changes CTR_CKERR, CTR_UNKDEV, CTR_MALF, CTR_TRUNC
or CTR_ESCERR, and is not RESET, changes no FIFO and no counter of a sink, and not MODE. -/
def Obligations.FailedSpansReachNoSink : Prop :=
  ∀ (s t : State) (i : Instr), i ≠ .reset → exec i s = .next t →
    (t.ctrCkErr ≠ s.ctrCkErr ∨ t.ctrUnkDev ≠ s.ctrUnkDev ∨ t.ctrMalf ≠ s.ctrMalf ∨ t.ctrTrunc ≠ s.ctrTrunc ∨
      t.ctrEscErr ≠ s.ctrEscErr) →
    t.sinks = s.sinks ∧ t.ctrOk = s.ctrOk ∧ t.mode = s.mode ∧ t.lastErr ≠ 0

/-- R242: when a run has ended, no event but RESET has a step. Quiet is the spec's own invariant R34 (d). -/
def Obligations.EndedRunTakesOnlyReset : Prop :=
  ∀ (s t : State) (i : Instr), Quiet s →
    (s.mode = .halted ∨ s.mode = .fatal ∧ ∀ snk ∈ s.sinks, snk.q = []) → exec i s = .next t → i = .reset

/-- Lock-on (40_synchronizer.md section 4, R115 derived there): from any RUN state that meets the invariant, the wire bytes of any
frame, at any TS values, give exactly one completion, at the last byte, and BUF then holds the frame. The offers are the model's form of
consecutive BYTE events (log entry 2), here and in the next two statements. -/
def Obligations.LockOn : Prop :=
  ∀ (s : State) (l : List Byte) (offers rest : List Offer),
    Inv s → s.mode = .run → IsFrame s.cfg l →
    offers.map Offer.word = (wireOf s.cfg l).map (fun b => encodeEvent (.byte b)) →
    s.pending = offers ++ rest →
      (∀ n, n < offers.length →
        ∃ t, Host.Core.run Sys2Proof.core n s = .next t ∧ t.mode = .run ∧ t.ctrCand = s.ctrCand ∧ t.sinks = s.sinks) ∧
      ∃ t, Host.Core.run Sys2Proof.core offers.length s = .next t ∧ t.mode = .run ∧ t.syncSt = .seekIdle ∧ t.cnt = 0 ∧
        t.buf = l ∧ t.ctrCand = (s.ctrCand + 1) % 2 ^ s.cfg.ctrW ∧ t.pending = rest

/-- End to end (sections 40 to 42 together): the wire bytes of a frame, from any RUN state that meets the invariant, leave every sink
with exactly what decoding the logical frame gives: the ReadingSet offered to every sink and CTR_OK counted, or nothing. TS is the
last byte's. -/
def Obligations.FramesAreDeliveredEndToEnd : Prop :=
  ∀ (s : State) (l : List Byte) (offers rest : List Offer) (o : Offer),
    Inv s → s.mode = .run → IsFrame s.cfg l →
    (offers ++ [o]).map Offer.word = (wireOf s.cfg l).map (fun b => encodeEvent (.byte b)) →
    s.pending = offers ++ o :: rest →
      ∃ t, Host.Core.run Sys2Proof.core (offers.length + 1) s = .next t ∧
        match decodeCandidate s.cfg l (o.ts % 2 ^ s.cfg.tsW) with
        | .ok rs => t.sinks = s.sinks.map (offerTo s.cfg rs) ∧ t.ctrOk = (s.ctrOk + 1) % 2 ^ s.cfg.ctrW
        | .error e => t.sinks = s.sinks ∧ t.ctrOk = s.ctrOk ∧ t.lastErr = errCode e

/-- One candidate per frame in sentinel-free noise (40_synchronizer.md section 4, R116 derived there): from SEEK_IDLE, noise without
the pair SYNC0 SYNC1 around one frame gives exactly one completion, with the frame's bytes in BUF. -/
def Obligations.OneCandidateInSentinelFreeNoise : Prop :=
  ∀ (s : State) (l n1 n2 : List Byte) (offers rest : List Offer),
    Inv s → s.mode = .run → s.syncSt = .seekIdle → IsFrame s.cfg l →
    (∀ j, ¬ (n1[j]? = some s.cfg.sync0 ∧ n1[j + 1]? = some s.cfg.sync1)) →
    (∀ j, ¬ (n2[j]? = some s.cfg.sync0 ∧ n2[j + 1]? = some s.cfg.sync1)) →
    offers.map Offer.word = (n1 ++ wireOf s.cfg l ++ n2).map (fun b => encodeEvent (.byte b)) →
    s.pending = offers ++ rest →
      ∃ t, Host.Core.run Sys2Proof.core offers.length s = .next t ∧
        t.ctrCand = (s.ctrCand + 1) % 2 ^ s.cfg.ctrW ∧ t.buf = l ∧ ¬ inFrame t

/-- R76 (derived in the spec): the wire length of a frame is FRAME_LEN plus the number of SYNC0 bytes in its body. -/
def Obligations.WireLength : Prop :=
  ∀ (c : Config) (l : List Byte), IsFrame c l →
    (wireOf c l).length = c.frameLen + (l.drop 2).count c.sync0 ∧ (wireOf c l).length ≤ 2 * c.frameLen - 2

/-- R77 (derived in the spec): in a wire frame the pair SYNC0 SYNC1 stands at its start only. -/
def Obligations.SentinelIsUniqueOnTheWire : Prop :=
  ∀ (c : Config) (l : List Byte) (j : Nat), c.wf = true → IsFrame c l →
    (wireOf c l)[j]? = some c.sync0 → (wireOf c l)[j + 1]? = some c.sync1 → j = 0

/-- The reference frame V-F1 (30_encoding.md R78, 41_decoder.md R140's example): its wire bytes, and the nine readings it decodes to
at any TS. A sanity statement. -/
def Obligations.ReferenceFrame : Prop :=
  let l : List Byte := [0xAA, 0x55, 0x10, 0x00, 0x01, 0xF4, 0x01, 0xE1, 0x00, 0xCE, 0xFF, 0x00, 0x00, 0x84, 0x03, 0xFF, 0x7F,
    0x00, 0x80, 0xAA, 0x00, 0x64, 0x46]
  wireOf Config.default l = [0xAA, 0x55, 0x10, 0x00, 0x01, 0xF4, 0x01, 0xE1, 0x00, 0xCE, 0xFF, 0x00, 0x00, 0x84, 0x03, 0xFF,
    0x7F, 0x00, 0x80, 0xAA, 0x00, 0x00, 0x64, 0x46] ∧
  ∀ ts : Nat, decodeCandidate Config.default l ts = .ok
    { src := 0x10, cmd := 0x0100, ts := ts, readings := [
      ⟨500, 10, true, .temperature, 0⟩, ⟨225, 10, true, .temperature, 1⟩, ⟨0xFFFFFFCE, 10, true, .temperature, 2⟩,
      ⟨0, 10, true, .temperature, 3⟩, ⟨900, 10, true, .temperature, 4⟩, ⟨32767, 10, true, .temperature, 5⟩,
      ⟨0xFFFF8000, 10, true, .temperature, 6⟩, ⟨170, 10, true, .temperature, 7⟩, ⟨100, 1, false, .pumpSpeed, 8⟩] }

/-- Idempotence (41_decoder.md section 5, R142 derived there): two completions of the same BUF differ in TS at most. -/
def Obligations.DecodingIsIdempotent : Prop :=
  ∀ (c : Config) (buf : List Byte) (ts ts' : Nat) (rs : ReadingSet), decodeCandidate c buf ts = .ok rs →
    rs.ts = ts ∧ decodeCandidate c buf ts' = .ok { rs with ts := ts' }

/-- Single-byte corruption (41_decoder.md section 5, R143 derived there): under either algorithm, changing one byte of a candidate
whose checksum matches, the checksum byte included, makes the completion raise ChecksumError. -/
def Obligations.SingleByteCorruptionIsDetected : Prop :=
  ∀ (c : Config) (buf : List Byte) (j : Nat) (v : Byte) (ts : Nat),
    buf.length = c.frameLen → checksumOk c buf = true → j < c.frameLen → v ≠ bufByte buf j →
      decodeCandidate c (buf.set j v) ts = .error .checksumError

/-- Isolation (42_dispatcher.md section 3, R164 derived there): two states that agree but for sink k take the same BYTE step and still
agree but for sink k. -/
def Obligations.SinksDoNotDisturbBytes : Prop :=
  ∀ (s s' t : State) (i : Instr) (k : Nat), i.isByte = true → AgreeButSink k s s' → exec i s = .next t →
    ∃ t', exec i s' = .next t' ∧ AgreeButSink k t t'

/-- Per-sink order (20_memory.md R59, derived in the spec): in any run of steps, what sink k takes, followed by what is left in its
FIFO, is a subsequence of what its FIFO held followed by what the decode path produced. -/
def Obligations.SinksReceiveInOrder : Prop :=
  ∀ (k n : Nat) (s : State) (tr : Trace), runTrace k n s = some tr →
    (tr.taken ++ tr.final.queue k).Sublist (s.queue k ++ tr.produced)

/-- Fan-out (42_dispatcher.md section 3, R165 derived there): in a run in which sink k loses nothing, what it takes followed by what
is left is exactly what its FIFO held followed by what was produced, whatever the other sinks do. -/
def Obligations.LossFreeSinksReceiveEverything : Prop :=
  ∀ (k n : Nat) (s : State) (tr : Trace), Inv s → k < s.cfg.nSinks → runTrace k n s = some tr → tr.lost = [] →
    tr.taken ++ tr.final.queue k = s.queue k ++ tr.produced

/-- R60: with Q[k] full, a POP (OK or ERR) before a completion drops nothing, and a POP after it finds the oldest entry dropped; both
orders have their steps. -/
def Obligations.EnqueueAndPopInEitherOrder : Prop :=
  ∀ (s : State) (k : BitVec 4) (snk : Sink) (pop i : Instr) (v : Byte) (rs : ReadingSet),
    (pop = .popOk k ∨ pop = .popErr k) →
    s.cfg.wf = true → s.mode = .run → s.sinks[k.toNat]? = some snk → k.toNat < s.cfg.nSinks →
    snk.q.length = s.cfg.qDepth →
    (s.syncSt = .accum ∧ v ≠ s.cfg.sync0 ∧ i = .accumLiteral v ∨
      s.syncSt = .accEsc ∧ v = s.cfg.sync0 ∧ i = .accEscEscLit) →
    (s.cnt + 1).toNat = s.cfg.frameLen →
    decodeCandidate s.cfg (s.buf.set s.cnt.toNat v) (s.tsIn % 2 ^ s.cfg.tsW) = .ok rs →
      (∃ a b snk', exec pop s = .next a ∧ exec i a = .next b ∧ b.sinks[k.toNat]? = some snk' ∧
        snk'.drop = snk.drop ∧ snk'.q = snk.q.drop 1 ++ [rs]) ∧
      ∃ a b snk', exec i s = .next a ∧ exec pop a = .next b ∧ b.sinks[k.toNat]? = some snk' ∧
        snk'.drop = (snk.drop + 1) % 2 ^ s.cfg.ctrW ∧ snk'.q = (snk.q.drop 1 ++ [rs]).drop 1

/-- R32, R239: the outputs. Reading q_data[k] while q_valid[k] = 0 faults, and POP on an empty FIFO has no step; else q_data[k] is the
head. q_level[k] is the length of Q[k], which fits its 8 bits in a state of the machine invariant. The other outputs are the codes of MODE
and SYNC_ST, the registers and the counters as they are, and the two mode bits. -/
def Obligations.QDataFaultsWhenEmpty : Prop :=
  (∀ (s : State) (k : BitVec 4),
    (qValid s k.toNat = false → qData s k.toNat = .error .qDataUndefined) ∧
    (qValid s k.toNat = false → k.toNat < s.cfg.nSinks →
      exec (.popOk k) s = .fault .popEmpty ∧ exec (.popErr k) s = .fault .popEmpty) ∧
    (qValid s k.toNat = true ↔ 0 < (s.queue k.toNat).length) ∧
    (∀ rs rest, s.queue k.toNat = rs :: rest → qData s k.toNat = .ok rs) ∧
    (Inv s → (qLevel s k.toNat).toNat = (s.queue k.toNat).length)) ∧
  ∀ s : State,
    outputs s = {
      mode := (match s.mode with | .run => 0 | .closing => 1 | .halted => 2 | .fatal => 3),
      syncState := (match s.syncSt with | .seekIdle => 0 | .seekS1 => 1 | .accum => 2 | .accEsc => 3),
      count := s.cnt, lastErr := s.lastErr, fatal := decide (s.mode = .fatal), halted := decide (s.mode = .halted),
      ctrBytes := s.ctrBytes, ctrCand := s.ctrCand, ctrOk := s.ctrOk, ctrCkErr := s.ctrCkErr, ctrUnkDev := s.ctrUnkDev,
      ctrMalf := s.ctrMalf, ctrTrunc := s.ctrTrunc, ctrEscErr := s.ctrEscErr }

/-- R96, R97: the places of a Reading's fields in its 64-bit word, and the words of a packed ReadingSet: SRC, CMD, N and zeros in
word 0, TS in word 1, then the readings in order. The reserved bits are 0. -/
def Obligations.PackedWords : Prop :=
  (∀ r : Reading,
    (packReading r).extractLsb' 32 32 = r.raw ∧ (packReading r).extractLsb' 16 16 = r.div ∧
    (packReading r).extractLsb' 6 10 = 0 ∧ (packReading r).getLsbD 5 = r.sgn ∧
    ((packReading r).getLsbD 4 = true ↔ r.kind = .pumpSpeed) ∧ (packReading r).extractLsb' 0 4 = r.chan) ∧
  ∀ rs : ReadingSet, rs.readings.length ≤ 15 → rs.ts < 2 ^ 64 →
    ∃ h t, packSet rs = h :: t :: rs.readings.map packReading ∧ t.toNat = rs.ts ∧
      h.extractLsb' 0 8 = rs.src ∧ h.extractLsb' 8 16 = rs.cmd ∧
      (h.extractLsb' 24 4).toNat = rs.readings.length ∧ h.extractLsb' 28 36 = 0
end

