-- ==== Sys2Proof/Laws/State.lean ====
section
/-! SUPPORT. One lemma per field per update of State, so that no proof unfolds a record update. -/
namespace Sys2Proof.Machine

@[simp] theorem countByte_cfg (s : State) : (countByte s).cfg = s.cfg := rfl
@[simp] theorem countByte_mode (s : State) : (countByte s).mode = s.mode := rfl
@[simp] theorem countByte_syncSt (s : State) : (countByte s).syncSt = s.syncSt := rfl
@[simp] theorem countByte_cnt (s : State) : (countByte s).cnt = s.cnt := rfl
@[simp] theorem countByte_buf (s : State) : (countByte s).buf = s.buf := rfl
@[simp] theorem countByte_lastErr (s : State) : (countByte s).lastErr = s.lastErr := rfl
@[simp] theorem countByte_ctrBytes (s : State) : (countByte s).ctrBytes = bump s.cfg s.ctrBytes := rfl
@[simp] theorem countByte_ctrCand (s : State) : (countByte s).ctrCand = s.ctrCand := rfl
@[simp] theorem countByte_ctrOk (s : State) : (countByte s).ctrOk = s.ctrOk := rfl
@[simp] theorem countByte_ctrCkErr (s : State) : (countByte s).ctrCkErr = s.ctrCkErr := rfl
@[simp] theorem countByte_ctrUnkDev (s : State) : (countByte s).ctrUnkDev = s.ctrUnkDev := rfl
@[simp] theorem countByte_ctrMalf (s : State) : (countByte s).ctrMalf = s.ctrMalf := rfl
@[simp] theorem countByte_ctrTrunc (s : State) : (countByte s).ctrTrunc = s.ctrTrunc := rfl
@[simp] theorem countByte_ctrEscErr (s : State) : (countByte s).ctrEscErr = s.ctrEscErr := rfl
@[simp] theorem countByte_sinks (s : State) : (countByte s).sinks = s.sinks := rfl
@[simp] theorem countByte_tsIn (s : State) : (countByte s).tsIn = s.tsIn := rfl
@[simp] theorem countByte_pending (s : State) : (countByte s).pending = s.pending := rfl
@[simp] theorem countByte_draws (s : State) : (countByte s).draws = s.draws := rfl

@[simp] theorem setSync_cfg (st : SyncState) (s : State) : (setSync st s).cfg = s.cfg := rfl
@[simp] theorem setSync_mode (st : SyncState) (s : State) : (setSync st s).mode = s.mode := rfl
@[simp] theorem setSync_syncSt (st : SyncState) (s : State) : (setSync st s).syncSt = st := rfl
@[simp] theorem setSync_cnt (st : SyncState) (s : State) : (setSync st s).cnt = s.cnt := rfl
@[simp] theorem setSync_buf (st : SyncState) (s : State) : (setSync st s).buf = s.buf := rfl
@[simp] theorem setSync_lastErr (st : SyncState) (s : State) : (setSync st s).lastErr = s.lastErr := rfl
@[simp] theorem setSync_ctrBytes (st : SyncState) (s : State) : (setSync st s).ctrBytes = s.ctrBytes := rfl
@[simp] theorem setSync_ctrCand (st : SyncState) (s : State) : (setSync st s).ctrCand = s.ctrCand := rfl
@[simp] theorem setSync_ctrOk (st : SyncState) (s : State) : (setSync st s).ctrOk = s.ctrOk := rfl
@[simp] theorem setSync_ctrCkErr (st : SyncState) (s : State) : (setSync st s).ctrCkErr = s.ctrCkErr := rfl
@[simp] theorem setSync_ctrUnkDev (st : SyncState) (s : State) : (setSync st s).ctrUnkDev = s.ctrUnkDev := rfl
@[simp] theorem setSync_ctrMalf (st : SyncState) (s : State) : (setSync st s).ctrMalf = s.ctrMalf := rfl
@[simp] theorem setSync_ctrTrunc (st : SyncState) (s : State) : (setSync st s).ctrTrunc = s.ctrTrunc := rfl
@[simp] theorem setSync_ctrEscErr (st : SyncState) (s : State) : (setSync st s).ctrEscErr = s.ctrEscErr := rfl
@[simp] theorem setSync_sinks (st : SyncState) (s : State) : (setSync st s).sinks = s.sinks := rfl
@[simp] theorem setSync_tsIn (st : SyncState) (s : State) : (setSync st s).tsIn = s.tsIn := rfl
@[simp] theorem setSync_pending (st : SyncState) (s : State) : (setSync st s).pending = s.pending := rfl
@[simp] theorem setSync_draws (st : SyncState) (s : State) : (setSync st s).draws = s.draws := rfl

@[simp] theorem discard_cfg (s : State) : (discard s).cfg = s.cfg := rfl
@[simp] theorem discard_mode (s : State) : (discard s).mode = s.mode := rfl
@[simp] theorem discard_syncSt (s : State) : (discard s).syncSt = s.syncSt := rfl
@[simp] theorem discard_cnt (s : State) : (discard s).cnt = 0 := rfl
@[simp] theorem discard_buf (s : State) : (discard s).buf = s.buf := rfl
@[simp] theorem discard_lastErr (s : State) : (discard s).lastErr = s.lastErr := rfl
@[simp] theorem discard_ctrBytes (s : State) : (discard s).ctrBytes = s.ctrBytes := rfl
@[simp] theorem discard_ctrCand (s : State) : (discard s).ctrCand = s.ctrCand := rfl
@[simp] theorem discard_ctrOk (s : State) : (discard s).ctrOk = s.ctrOk := rfl
@[simp] theorem discard_ctrCkErr (s : State) : (discard s).ctrCkErr = s.ctrCkErr := rfl
@[simp] theorem discard_ctrUnkDev (s : State) : (discard s).ctrUnkDev = s.ctrUnkDev := rfl
@[simp] theorem discard_ctrMalf (s : State) : (discard s).ctrMalf = s.ctrMalf := rfl
@[simp] theorem discard_ctrTrunc (s : State) : (discard s).ctrTrunc = s.ctrTrunc := rfl
@[simp] theorem discard_ctrEscErr (s : State) : (discard s).ctrEscErr = s.ctrEscErr := rfl
@[simp] theorem discard_sinks (s : State) : (discard s).sinks = s.sinks := rfl
@[simp] theorem discard_tsIn (s : State) : (discard s).tsIn = s.tsIn := rfl
@[simp] theorem discard_pending (s : State) : (discard s).pending = s.pending := rfl
@[simp] theorem discard_draws (s : State) : (discard s).draws = s.draws := rfl

@[simp] theorem startFrame_cfg (s : State) : (startFrame s).cfg = s.cfg := rfl
@[simp] theorem startFrame_mode (s : State) : (startFrame s).mode = s.mode := rfl
@[simp] theorem startFrame_syncSt (s : State) : (startFrame s).syncSt = .accum := rfl
@[simp] theorem startFrame_cnt (s : State) : (startFrame s).cnt = 2 := rfl
@[simp] theorem startFrame_buf (s : State) : (startFrame s).buf = (s.buf.set 0 s.cfg.sync0).set 1 s.cfg.sync1 := rfl
@[simp] theorem startFrame_lastErr (s : State) : (startFrame s).lastErr = s.lastErr := rfl
@[simp] theorem startFrame_ctrBytes (s : State) : (startFrame s).ctrBytes = s.ctrBytes := rfl
@[simp] theorem startFrame_ctrCand (s : State) : (startFrame s).ctrCand = s.ctrCand := rfl
@[simp] theorem startFrame_ctrOk (s : State) : (startFrame s).ctrOk = s.ctrOk := rfl
@[simp] theorem startFrame_ctrCkErr (s : State) : (startFrame s).ctrCkErr = s.ctrCkErr := rfl
@[simp] theorem startFrame_ctrUnkDev (s : State) : (startFrame s).ctrUnkDev = s.ctrUnkDev := rfl
@[simp] theorem startFrame_ctrMalf (s : State) : (startFrame s).ctrMalf = s.ctrMalf := rfl
@[simp] theorem startFrame_ctrTrunc (s : State) : (startFrame s).ctrTrunc = s.ctrTrunc := rfl
@[simp] theorem startFrame_ctrEscErr (s : State) : (startFrame s).ctrEscErr = s.ctrEscErr := rfl
@[simp] theorem startFrame_sinks (s : State) : (startFrame s).sinks = s.sinks := rfl
@[simp] theorem startFrame_tsIn (s : State) : (startFrame s).tsIn = s.tsIn := rfl
@[simp] theorem startFrame_pending (s : State) : (startFrame s).pending = s.pending := rfl
@[simp] theorem startFrame_draws (s : State) : (startFrame s).draws = s.draws := rfl

@[simp] theorem putByte_cfg (v : Byte) (s : State) : (putByte v s).cfg = s.cfg := rfl
@[simp] theorem putByte_mode (v : Byte) (s : State) : (putByte v s).mode = s.mode := rfl
@[simp] theorem putByte_syncSt (v : Byte) (s : State) : (putByte v s).syncSt = s.syncSt := rfl
@[simp] theorem putByte_cnt (v : Byte) (s : State) : (putByte v s).cnt = s.cnt + 1 := rfl
@[simp] theorem putByte_buf (v : Byte) (s : State) : (putByte v s).buf = s.buf.set s.cnt.toNat v := rfl
@[simp] theorem putByte_lastErr (v : Byte) (s : State) : (putByte v s).lastErr = s.lastErr := rfl
@[simp] theorem putByte_ctrBytes (v : Byte) (s : State) : (putByte v s).ctrBytes = s.ctrBytes := rfl
@[simp] theorem putByte_ctrCand (v : Byte) (s : State) : (putByte v s).ctrCand = s.ctrCand := rfl
@[simp] theorem putByte_ctrOk (v : Byte) (s : State) : (putByte v s).ctrOk = s.ctrOk := rfl
@[simp] theorem putByte_ctrCkErr (v : Byte) (s : State) : (putByte v s).ctrCkErr = s.ctrCkErr := rfl
@[simp] theorem putByte_ctrUnkDev (v : Byte) (s : State) : (putByte v s).ctrUnkDev = s.ctrUnkDev := rfl
@[simp] theorem putByte_ctrMalf (v : Byte) (s : State) : (putByte v s).ctrMalf = s.ctrMalf := rfl
@[simp] theorem putByte_ctrTrunc (v : Byte) (s : State) : (putByte v s).ctrTrunc = s.ctrTrunc := rfl
@[simp] theorem putByte_ctrEscErr (v : Byte) (s : State) : (putByte v s).ctrEscErr = s.ctrEscErr := rfl
@[simp] theorem putByte_sinks (v : Byte) (s : State) : (putByte v s).sinks = s.sinks := rfl
@[simp] theorem putByte_tsIn (v : Byte) (s : State) : (putByte v s).tsIn = s.tsIn := rfl
@[simp] theorem putByte_pending (v : Byte) (s : State) : (putByte v s).pending = s.pending := rfl
@[simp] theorem putByte_draws (v : Byte) (s : State) : (putByte v s).draws = s.draws := rfl

@[simp] theorem countCandidate_cfg (s : State) : (countCandidate s).cfg = s.cfg := rfl
@[simp] theorem countCandidate_mode (s : State) : (countCandidate s).mode = s.mode := rfl
@[simp] theorem countCandidate_syncSt (s : State) : (countCandidate s).syncSt = s.syncSt := rfl
@[simp] theorem countCandidate_cnt (s : State) : (countCandidate s).cnt = s.cnt := rfl
@[simp] theorem countCandidate_buf (s : State) : (countCandidate s).buf = s.buf := rfl
@[simp] theorem countCandidate_lastErr (s : State) : (countCandidate s).lastErr = s.lastErr := rfl
@[simp] theorem countCandidate_ctrBytes (s : State) : (countCandidate s).ctrBytes = s.ctrBytes := rfl
@[simp] theorem countCandidate_ctrCand (s : State) : (countCandidate s).ctrCand = bump s.cfg s.ctrCand := rfl
@[simp] theorem countCandidate_ctrOk (s : State) : (countCandidate s).ctrOk = s.ctrOk := rfl
@[simp] theorem countCandidate_ctrCkErr (s : State) : (countCandidate s).ctrCkErr = s.ctrCkErr := rfl
@[simp] theorem countCandidate_ctrUnkDev (s : State) : (countCandidate s).ctrUnkDev = s.ctrUnkDev := rfl
@[simp] theorem countCandidate_ctrMalf (s : State) : (countCandidate s).ctrMalf = s.ctrMalf := rfl
@[simp] theorem countCandidate_ctrTrunc (s : State) : (countCandidate s).ctrTrunc = s.ctrTrunc := rfl
@[simp] theorem countCandidate_ctrEscErr (s : State) : (countCandidate s).ctrEscErr = s.ctrEscErr := rfl
@[simp] theorem countCandidate_sinks (s : State) : (countCandidate s).sinks = s.sinks := rfl
@[simp] theorem countCandidate_tsIn (s : State) : (countCandidate s).tsIn = s.tsIn := rfl
@[simp] theorem countCandidate_pending (s : State) : (countCandidate s).pending = s.pending := rfl
@[simp] theorem countCandidate_draws (s : State) : (countCandidate s).draws = s.draws := rfl

@[simp] theorem dispatch_cfg (rs : ReadingSet) (s : State) : (dispatch rs s).cfg = s.cfg := rfl
@[simp] theorem dispatch_mode (rs : ReadingSet) (s : State) : (dispatch rs s).mode = s.mode := rfl
@[simp] theorem dispatch_syncSt (rs : ReadingSet) (s : State) : (dispatch rs s).syncSt = s.syncSt := rfl
@[simp] theorem dispatch_cnt (rs : ReadingSet) (s : State) : (dispatch rs s).cnt = s.cnt := rfl
@[simp] theorem dispatch_buf (rs : ReadingSet) (s : State) : (dispatch rs s).buf = s.buf := rfl
@[simp] theorem dispatch_lastErr (rs : ReadingSet) (s : State) : (dispatch rs s).lastErr = s.lastErr := rfl
@[simp] theorem dispatch_ctrBytes (rs : ReadingSet) (s : State) : (dispatch rs s).ctrBytes = s.ctrBytes := rfl
@[simp] theorem dispatch_ctrCand (rs : ReadingSet) (s : State) : (dispatch rs s).ctrCand = s.ctrCand := rfl
@[simp] theorem dispatch_ctrOk (rs : ReadingSet) (s : State) : (dispatch rs s).ctrOk = s.ctrOk := rfl
@[simp] theorem dispatch_ctrCkErr (rs : ReadingSet) (s : State) : (dispatch rs s).ctrCkErr = s.ctrCkErr := rfl
@[simp] theorem dispatch_ctrUnkDev (rs : ReadingSet) (s : State) : (dispatch rs s).ctrUnkDev = s.ctrUnkDev := rfl
@[simp] theorem dispatch_ctrMalf (rs : ReadingSet) (s : State) : (dispatch rs s).ctrMalf = s.ctrMalf := rfl
@[simp] theorem dispatch_ctrTrunc (rs : ReadingSet) (s : State) : (dispatch rs s).ctrTrunc = s.ctrTrunc := rfl
@[simp] theorem dispatch_ctrEscErr (rs : ReadingSet) (s : State) : (dispatch rs s).ctrEscErr = s.ctrEscErr := rfl
@[simp] theorem dispatch_sinks (rs : ReadingSet) (s : State) : (dispatch rs s).sinks = s.sinks.map (offerTo s.cfg rs) := rfl
@[simp] theorem dispatch_tsIn (rs : ReadingSet) (s : State) : (dispatch rs s).tsIn = s.tsIn := rfl
@[simp] theorem dispatch_pending (rs : ReadingSet) (s : State) : (dispatch rs s).pending = s.pending := rfl
@[simp] theorem dispatch_draws (rs : ReadingSet) (s : State) : (dispatch rs s).draws = s.draws := rfl

@[simp] theorem emit_cfg (rs : ReadingSet) (s : State) : (emit rs s).cfg = s.cfg := rfl
@[simp] theorem emit_mode (rs : ReadingSet) (s : State) : (emit rs s).mode = s.mode := rfl
@[simp] theorem emit_syncSt (rs : ReadingSet) (s : State) : (emit rs s).syncSt = s.syncSt := rfl
@[simp] theorem emit_cnt (rs : ReadingSet) (s : State) : (emit rs s).cnt = s.cnt := rfl
@[simp] theorem emit_buf (rs : ReadingSet) (s : State) : (emit rs s).buf = s.buf := rfl
@[simp] theorem emit_lastErr (rs : ReadingSet) (s : State) : (emit rs s).lastErr = s.lastErr := rfl
@[simp] theorem emit_ctrBytes (rs : ReadingSet) (s : State) : (emit rs s).ctrBytes = s.ctrBytes := rfl
@[simp] theorem emit_ctrCand (rs : ReadingSet) (s : State) : (emit rs s).ctrCand = s.ctrCand := rfl
@[simp] theorem emit_ctrOk (rs : ReadingSet) (s : State) : (emit rs s).ctrOk = bump s.cfg s.ctrOk := rfl
@[simp] theorem emit_ctrCkErr (rs : ReadingSet) (s : State) : (emit rs s).ctrCkErr = s.ctrCkErr := rfl
@[simp] theorem emit_ctrUnkDev (rs : ReadingSet) (s : State) : (emit rs s).ctrUnkDev = s.ctrUnkDev := rfl
@[simp] theorem emit_ctrMalf (rs : ReadingSet) (s : State) : (emit rs s).ctrMalf = s.ctrMalf := rfl
@[simp] theorem emit_ctrTrunc (rs : ReadingSet) (s : State) : (emit rs s).ctrTrunc = s.ctrTrunc := rfl
@[simp] theorem emit_ctrEscErr (rs : ReadingSet) (s : State) : (emit rs s).ctrEscErr = s.ctrEscErr := rfl
@[simp] theorem emit_sinks (rs : ReadingSet) (s : State) : (emit rs s).sinks = s.sinks.map (offerTo s.cfg rs) := rfl
@[simp] theorem emit_tsIn (rs : ReadingSet) (s : State) : (emit rs s).tsIn = s.tsIn := rfl
@[simp] theorem emit_pending (rs : ReadingSet) (s : State) : (emit rs s).pending = s.pending := rfl
@[simp] theorem emit_draws (rs : ReadingSet) (s : State) : (emit rs s).draws = s.draws := rfl

@[simp] theorem modifySink_cfg (k : Nat) (f : Sink → Sink) (s : State) : (modifySink k f s).cfg = s.cfg := rfl
@[simp] theorem modifySink_mode (k : Nat) (f : Sink → Sink) (s : State) : (modifySink k f s).mode = s.mode := rfl
@[simp] theorem modifySink_syncSt (k : Nat) (f : Sink → Sink) (s : State) : (modifySink k f s).syncSt = s.syncSt := rfl
@[simp] theorem modifySink_cnt (k : Nat) (f : Sink → Sink) (s : State) : (modifySink k f s).cnt = s.cnt := rfl
@[simp] theorem modifySink_buf (k : Nat) (f : Sink → Sink) (s : State) : (modifySink k f s).buf = s.buf := rfl
@[simp] theorem modifySink_lastErr (k : Nat) (f : Sink → Sink) (s : State) : (modifySink k f s).lastErr = s.lastErr := rfl
@[simp] theorem modifySink_ctrBytes (k : Nat) (f : Sink → Sink) (s : State) : (modifySink k f s).ctrBytes = s.ctrBytes := rfl
@[simp] theorem modifySink_ctrCand (k : Nat) (f : Sink → Sink) (s : State) : (modifySink k f s).ctrCand = s.ctrCand := rfl
@[simp] theorem modifySink_ctrOk (k : Nat) (f : Sink → Sink) (s : State) : (modifySink k f s).ctrOk = s.ctrOk := rfl
@[simp] theorem modifySink_ctrCkErr (k : Nat) (f : Sink → Sink) (s : State) : (modifySink k f s).ctrCkErr = s.ctrCkErr := rfl
@[simp] theorem modifySink_ctrUnkDev (k : Nat) (f : Sink → Sink) (s : State) : (modifySink k f s).ctrUnkDev = s.ctrUnkDev := rfl
@[simp] theorem modifySink_ctrMalf (k : Nat) (f : Sink → Sink) (s : State) : (modifySink k f s).ctrMalf = s.ctrMalf := rfl
@[simp] theorem modifySink_ctrTrunc (k : Nat) (f : Sink → Sink) (s : State) : (modifySink k f s).ctrTrunc = s.ctrTrunc := rfl
@[simp] theorem modifySink_ctrEscErr (k : Nat) (f : Sink → Sink) (s : State) : (modifySink k f s).ctrEscErr = s.ctrEscErr := rfl
@[simp] theorem modifySink_sinks (k : Nat) (f : Sink → Sink) (s : State) : (modifySink k f s).sinks = s.sinks.modify k f := rfl
@[simp] theorem modifySink_tsIn (k : Nat) (f : Sink → Sink) (s : State) : (modifySink k f s).tsIn = s.tsIn := rfl
@[simp] theorem modifySink_pending (k : Nat) (f : Sink → Sink) (s : State) : (modifySink k f s).pending = s.pending := rfl
@[simp] theorem modifySink_draws (k : Nat) (f : Sink → Sink) (s : State) : (modifySink k f s).draws = s.draws := rfl

@[simp] theorem truncate_cfg (s : State) : (truncate s).cfg = s.cfg := rfl
@[simp] theorem truncate_mode (s : State) : (truncate s).mode = s.mode := rfl
@[simp] theorem truncate_syncSt (s : State) : (truncate s).syncSt = .accum := rfl
@[simp] theorem truncate_cnt (s : State) : (truncate s).cnt = 2 := rfl
@[simp] theorem truncate_buf (s : State) : (truncate s).buf = (s.buf.set 0 s.cfg.sync0).set 1 s.cfg.sync1 := rfl
@[simp] theorem truncate_lastErr (s : State) : (truncate s).lastErr = 4 := rfl
@[simp] theorem truncate_ctrBytes (s : State) : (truncate s).ctrBytes = s.ctrBytes := rfl
@[simp] theorem truncate_ctrCand (s : State) : (truncate s).ctrCand = s.ctrCand := rfl
@[simp] theorem truncate_ctrOk (s : State) : (truncate s).ctrOk = s.ctrOk := rfl
@[simp] theorem truncate_ctrCkErr (s : State) : (truncate s).ctrCkErr = s.ctrCkErr := rfl
@[simp] theorem truncate_ctrUnkDev (s : State) : (truncate s).ctrUnkDev = s.ctrUnkDev := rfl
@[simp] theorem truncate_ctrMalf (s : State) : (truncate s).ctrMalf = s.ctrMalf := rfl
@[simp] theorem truncate_ctrTrunc (s : State) : (truncate s).ctrTrunc = bump s.cfg s.ctrTrunc := rfl
@[simp] theorem truncate_ctrEscErr (s : State) : (truncate s).ctrEscErr = s.ctrEscErr := rfl
@[simp] theorem truncate_sinks (s : State) : (truncate s).sinks = s.sinks := rfl
@[simp] theorem truncate_tsIn (s : State) : (truncate s).tsIn = s.tsIn := rfl
@[simp] theorem truncate_pending (s : State) : (truncate s).pending = s.pending := rfl
@[simp] theorem truncate_draws (s : State) : (truncate s).draws = s.draws := rfl

@[simp] theorem badEscape_cfg (st : SyncState) (s : State) : (badEscape st s).cfg = s.cfg := rfl
@[simp] theorem badEscape_mode (st : SyncState) (s : State) : (badEscape st s).mode = s.mode := rfl
@[simp] theorem badEscape_syncSt (st : SyncState) (s : State) : (badEscape st s).syncSt = st := rfl
@[simp] theorem badEscape_cnt (st : SyncState) (s : State) : (badEscape st s).cnt = 0 := rfl
@[simp] theorem badEscape_buf (st : SyncState) (s : State) : (badEscape st s).buf = s.buf := rfl
@[simp] theorem badEscape_lastErr (st : SyncState) (s : State) : (badEscape st s).lastErr = 5 := rfl
@[simp] theorem badEscape_ctrBytes (st : SyncState) (s : State) : (badEscape st s).ctrBytes = s.ctrBytes := rfl
@[simp] theorem badEscape_ctrCand (st : SyncState) (s : State) : (badEscape st s).ctrCand = s.ctrCand := rfl
@[simp] theorem badEscape_ctrOk (st : SyncState) (s : State) : (badEscape st s).ctrOk = s.ctrOk := rfl
@[simp] theorem badEscape_ctrCkErr (st : SyncState) (s : State) : (badEscape st s).ctrCkErr = s.ctrCkErr := rfl
@[simp] theorem badEscape_ctrUnkDev (st : SyncState) (s : State) : (badEscape st s).ctrUnkDev = s.ctrUnkDev := rfl
@[simp] theorem badEscape_ctrMalf (st : SyncState) (s : State) : (badEscape st s).ctrMalf = s.ctrMalf := rfl
@[simp] theorem badEscape_ctrTrunc (st : SyncState) (s : State) : (badEscape st s).ctrTrunc = s.ctrTrunc := rfl
@[simp] theorem badEscape_ctrEscErr (st : SyncState) (s : State) : (badEscape st s).ctrEscErr = bump s.cfg s.ctrEscErr := rfl
@[simp] theorem badEscape_sinks (st : SyncState) (s : State) : (badEscape st s).sinks = s.sinks := rfl
@[simp] theorem badEscape_tsIn (st : SyncState) (s : State) : (badEscape st s).tsIn = s.tsIn := rfl
@[simp] theorem badEscape_pending (st : SyncState) (s : State) : (badEscape st s).pending = s.pending := rfl
@[simp] theorem badEscape_draws (st : SyncState) (s : State) : (badEscape st s).draws = s.draws := rfl

@[simp] theorem closeMode_cfg (s : State) : (closeMode s).cfg = s.cfg := rfl
@[simp] theorem closeMode_mode (s : State) : (closeMode s).mode = if allQueuesEmpty s then .halted else .closing := rfl
@[simp] theorem closeMode_syncSt (s : State) : (closeMode s).syncSt = s.syncSt := rfl
@[simp] theorem closeMode_cnt (s : State) : (closeMode s).cnt = s.cnt := rfl
@[simp] theorem closeMode_buf (s : State) : (closeMode s).buf = s.buf := rfl
@[simp] theorem closeMode_lastErr (s : State) : (closeMode s).lastErr = s.lastErr := rfl
@[simp] theorem closeMode_ctrBytes (s : State) : (closeMode s).ctrBytes = s.ctrBytes := rfl
@[simp] theorem closeMode_ctrCand (s : State) : (closeMode s).ctrCand = s.ctrCand := rfl
@[simp] theorem closeMode_ctrOk (s : State) : (closeMode s).ctrOk = s.ctrOk := rfl
@[simp] theorem closeMode_ctrCkErr (s : State) : (closeMode s).ctrCkErr = s.ctrCkErr := rfl
@[simp] theorem closeMode_ctrUnkDev (s : State) : (closeMode s).ctrUnkDev = s.ctrUnkDev := rfl
@[simp] theorem closeMode_ctrMalf (s : State) : (closeMode s).ctrMalf = s.ctrMalf := rfl
@[simp] theorem closeMode_ctrTrunc (s : State) : (closeMode s).ctrTrunc = s.ctrTrunc := rfl
@[simp] theorem closeMode_ctrEscErr (s : State) : (closeMode s).ctrEscErr = s.ctrEscErr := rfl
@[simp] theorem closeMode_sinks (s : State) : (closeMode s).sinks = s.sinks := rfl
@[simp] theorem closeMode_tsIn (s : State) : (closeMode s).tsIn = s.tsIn := rfl
@[simp] theorem closeMode_pending (s : State) : (closeMode s).pending = s.pending := rfl
@[simp] theorem closeMode_draws (s : State) : (closeMode s).draws = s.draws := rfl

@[simp] theorem takeOffer_cfg (o : Offer) (rest : List Offer) (s : State) : (takeOffer o rest s).cfg = s.cfg := rfl
@[simp] theorem takeOffer_mode (o : Offer) (rest : List Offer) (s : State) : (takeOffer o rest s).mode = s.mode := rfl
@[simp] theorem takeOffer_syncSt (o : Offer) (rest : List Offer) (s : State) : (takeOffer o rest s).syncSt = s.syncSt := rfl
@[simp] theorem takeOffer_cnt (o : Offer) (rest : List Offer) (s : State) : (takeOffer o rest s).cnt = s.cnt := rfl
@[simp] theorem takeOffer_buf (o : Offer) (rest : List Offer) (s : State) : (takeOffer o rest s).buf = s.buf := rfl
@[simp] theorem takeOffer_lastErr (o : Offer) (rest : List Offer) (s : State) : (takeOffer o rest s).lastErr = s.lastErr := rfl
@[simp] theorem takeOffer_ctrBytes (o : Offer) (rest : List Offer) (s : State) : (takeOffer o rest s).ctrBytes = s.ctrBytes := rfl
@[simp] theorem takeOffer_ctrCand (o : Offer) (rest : List Offer) (s : State) : (takeOffer o rest s).ctrCand = s.ctrCand := rfl
@[simp] theorem takeOffer_ctrOk (o : Offer) (rest : List Offer) (s : State) : (takeOffer o rest s).ctrOk = s.ctrOk := rfl
@[simp] theorem takeOffer_ctrCkErr (o : Offer) (rest : List Offer) (s : State) : (takeOffer o rest s).ctrCkErr = s.ctrCkErr := rfl
@[simp] theorem takeOffer_ctrUnkDev (o : Offer) (rest : List Offer) (s : State) : (takeOffer o rest s).ctrUnkDev = s.ctrUnkDev := rfl
@[simp] theorem takeOffer_ctrMalf (o : Offer) (rest : List Offer) (s : State) : (takeOffer o rest s).ctrMalf = s.ctrMalf := rfl
@[simp] theorem takeOffer_ctrTrunc (o : Offer) (rest : List Offer) (s : State) : (takeOffer o rest s).ctrTrunc = s.ctrTrunc := rfl
@[simp] theorem takeOffer_ctrEscErr (o : Offer) (rest : List Offer) (s : State) : (takeOffer o rest s).ctrEscErr = s.ctrEscErr := rfl
@[simp] theorem takeOffer_sinks (o : Offer) (rest : List Offer) (s : State) : (takeOffer o rest s).sinks = s.sinks := rfl
@[simp] theorem takeOffer_tsIn (o : Offer) (rest : List Offer) (s : State) : (takeOffer o rest s).tsIn = o.ts := rfl
@[simp] theorem takeOffer_pending (o : Offer) (rest : List Offer) (s : State) : (takeOffer o rest s).pending = rest := rfl
@[simp] theorem takeOffer_draws (o : Offer) (rest : List Offer) (s : State) : (takeOffer o rest s).draws = s.draws := rfl

@[simp] theorem offerFirst_cfg (o : Offer) (s : State) : (offerFirst o s).cfg = s.cfg := rfl
@[simp] theorem offerFirst_mode (o : Offer) (s : State) : (offerFirst o s).mode = s.mode := rfl
@[simp] theorem offerFirst_syncSt (o : Offer) (s : State) : (offerFirst o s).syncSt = s.syncSt := rfl
@[simp] theorem offerFirst_cnt (o : Offer) (s : State) : (offerFirst o s).cnt = s.cnt := rfl
@[simp] theorem offerFirst_buf (o : Offer) (s : State) : (offerFirst o s).buf = s.buf := rfl
@[simp] theorem offerFirst_lastErr (o : Offer) (s : State) : (offerFirst o s).lastErr = s.lastErr := rfl
@[simp] theorem offerFirst_ctrBytes (o : Offer) (s : State) : (offerFirst o s).ctrBytes = s.ctrBytes := rfl
@[simp] theorem offerFirst_ctrCand (o : Offer) (s : State) : (offerFirst o s).ctrCand = s.ctrCand := rfl
@[simp] theorem offerFirst_ctrOk (o : Offer) (s : State) : (offerFirst o s).ctrOk = s.ctrOk := rfl
@[simp] theorem offerFirst_ctrCkErr (o : Offer) (s : State) : (offerFirst o s).ctrCkErr = s.ctrCkErr := rfl
@[simp] theorem offerFirst_ctrUnkDev (o : Offer) (s : State) : (offerFirst o s).ctrUnkDev = s.ctrUnkDev := rfl
@[simp] theorem offerFirst_ctrMalf (o : Offer) (s : State) : (offerFirst o s).ctrMalf = s.ctrMalf := rfl
@[simp] theorem offerFirst_ctrTrunc (o : Offer) (s : State) : (offerFirst o s).ctrTrunc = s.ctrTrunc := rfl
@[simp] theorem offerFirst_ctrEscErr (o : Offer) (s : State) : (offerFirst o s).ctrEscErr = s.ctrEscErr := rfl
@[simp] theorem offerFirst_sinks (o : Offer) (s : State) : (offerFirst o s).sinks = s.sinks := rfl
@[simp] theorem offerFirst_tsIn (o : Offer) (s : State) : (offerFirst o s).tsIn = s.tsIn := rfl
@[simp] theorem offerFirst_pending (o : Offer) (s : State) : (offerFirst o s).pending = o :: s.pending := rfl
@[simp] theorem offerFirst_draws (o : Offer) (s : State) : (offerFirst o s).draws = s.draws := rfl

@[simp] theorem raiseErr_cfg (e : Err) (s : State) : (raiseErr e s).cfg = s.cfg := by cases e <;> rfl
@[simp] theorem raiseErr_syncSt (e : Err) (s : State) : (raiseErr e s).syncSt = s.syncSt := by cases e <;> rfl
@[simp] theorem raiseErr_cnt (e : Err) (s : State) : (raiseErr e s).cnt = s.cnt := by cases e <;> rfl
@[simp] theorem raiseErr_buf (e : Err) (s : State) : (raiseErr e s).buf = s.buf := by cases e <;> rfl
@[simp] theorem raiseErr_ctrBytes (e : Err) (s : State) : (raiseErr e s).ctrBytes = s.ctrBytes := by cases e <;> rfl
@[simp] theorem raiseErr_ctrCand (e : Err) (s : State) : (raiseErr e s).ctrCand = s.ctrCand := by cases e <;> rfl
@[simp] theorem raiseErr_ctrOk (e : Err) (s : State) : (raiseErr e s).ctrOk = s.ctrOk := by cases e <;> rfl
@[simp] theorem raiseErr_tsIn (e : Err) (s : State) : (raiseErr e s).tsIn = s.tsIn := by cases e <;> rfl
@[simp] theorem raiseErr_pending (e : Err) (s : State) : (raiseErr e s).pending = s.pending := by cases e <;> rfl
@[simp] theorem raiseErr_draws (e : Err) (s : State) : (raiseErr e s).draws = s.draws := by cases e <;> rfl

@[simp] theorem drainCheck_cfg (s : State) : (drainCheck s).cfg = s.cfg := by unfold drainCheck; split <;> rfl
@[simp] theorem drainCheck_syncSt (s : State) : (drainCheck s).syncSt = s.syncSt := by unfold drainCheck; split <;> rfl
@[simp] theorem drainCheck_cnt (s : State) : (drainCheck s).cnt = s.cnt := by unfold drainCheck; split <;> rfl
@[simp] theorem drainCheck_buf (s : State) : (drainCheck s).buf = s.buf := by unfold drainCheck; split <;> rfl
@[simp] theorem drainCheck_lastErr (s : State) : (drainCheck s).lastErr = s.lastErr := by unfold drainCheck; split <;> rfl
@[simp] theorem drainCheck_ctrBytes (s : State) : (drainCheck s).ctrBytes = s.ctrBytes := by unfold drainCheck; split <;> rfl
@[simp] theorem drainCheck_ctrCand (s : State) : (drainCheck s).ctrCand = s.ctrCand := by unfold drainCheck; split <;> rfl
@[simp] theorem drainCheck_ctrOk (s : State) : (drainCheck s).ctrOk = s.ctrOk := by unfold drainCheck; split <;> rfl
@[simp] theorem drainCheck_ctrCkErr (s : State) : (drainCheck s).ctrCkErr = s.ctrCkErr := by unfold drainCheck; split <;> rfl
@[simp] theorem drainCheck_ctrUnkDev (s : State) : (drainCheck s).ctrUnkDev = s.ctrUnkDev := by unfold drainCheck; split <;> rfl
@[simp] theorem drainCheck_ctrMalf (s : State) : (drainCheck s).ctrMalf = s.ctrMalf := by unfold drainCheck; split <;> rfl
@[simp] theorem drainCheck_ctrTrunc (s : State) : (drainCheck s).ctrTrunc = s.ctrTrunc := by unfold drainCheck; split <;> rfl
@[simp] theorem drainCheck_ctrEscErr (s : State) : (drainCheck s).ctrEscErr = s.ctrEscErr := by unfold drainCheck; split <;> rfl
@[simp] theorem drainCheck_sinks (s : State) : (drainCheck s).sinks = s.sinks := by unfold drainCheck; split <;> rfl
@[simp] theorem drainCheck_tsIn (s : State) : (drainCheck s).tsIn = s.tsIn := by unfold drainCheck; split <;> rfl
@[simp] theorem drainCheck_pending (s : State) : (drainCheck s).pending = s.pending := by unfold drainCheck; split <;> rfl
@[simp] theorem drainCheck_draws (s : State) : (drainCheck s).draws = s.draws := by unfold drainCheck; split <;> rfl

end Sys2Proof.Machine
end

