-- ==== Sys2Proof/Laws/Ops.lean ====
section
/-! SUPPORT. What each shared operation can do, said once: BYTE forms, POP, raising, enqueueing, draining. -/
namespace Sys2Proof.Machine

/-- A BYTE form answers next exactly in RUN, in its SYNC_ST, on a byte of its class, and then counts the byte and takes its effect. -/
theorem byteForm_eq_next {st : SyncState} {c : Bool} {f : State → State} {s t : State} :
    byteForm st c f s = .next t ↔ s.mode = .run ∧ s.syncSt = st ∧ c = true ∧ t = f (countByte s) := by
  unfold byteForm
  by_cases hm : s.mode = .run <;> by_cases hs : s.syncSt = st <;> cases c <;> simp [hm, hs, eq_comm]

/-- A POP answers next exactly for a sink that exists and has an entry. -/
theorem popSink_eq_next {k : BitVec 4} {f : State → State} {s t : State} :
    popSink k f s = .next t ↔
      k.toNat < s.cfg.nSinks ∧ s.queue k.toNat ≠ [] ∧ t = drainCheck (f (dropHead k.toNat s)) := by
  unfold popSink
  by_cases hk : s.cfg.nSinks ≤ k.toNat
  · simp [hk]
  · by_cases hq : s.queue k.toNat = [] <;> simp [hk, hq, not_le.mp hk, eq_comm]

/-- The FIFO of sink k when its entry is known. -/
theorem queue_of_getElem? {s : State} {k : Nat} {snk : Sink} (h : s.sinks[k]? = some snk) : s.queue k = snk.q := by
  simp [State.queue, h]

/-- A nonempty FIFO belongs to a sink that exists. -/
theorem exists_sink_of_queue_ne_nil {s : State} {k : Nat} (h : s.queue k ≠ []) :
    ∃ snk, s.sinks[k]? = some snk ∧ snk.q = s.queue k := by
  unfold State.queue at *
  cases hk : s.sinks[k]? with
  | none => simp [hk] at h
  | some snk => exact ⟨snk, rfl, by simp⟩

/-- The drain check moves CLOSING with empty FIFOs to HALTED, and does nothing else. -/
theorem drainCheck_cases (s : State) :
    (s.mode = .closing ∧ allQueuesEmpty s = true ∧ drainCheck s = { s with mode := .halted }) ∨
    (¬ (s.mode = .closing ∧ allQueuesEmpty s = true) ∧ drainCheck s = s) := by
  unfold drainCheck
  split
  · exact .inl ⟨by simp_all, by simp_all, rfl⟩
  · exact .inr ⟨by assumption, rfl⟩

/-- All FIFOs are empty exactly when each sink's is. -/
theorem allQueuesEmpty_iff {s : State} : allQueuesEmpty s = true ↔ ∀ snk ∈ s.sinks, snk.q = [] := by
  simp [allQueuesEmpty]

/-- Raising an error moves MODE to FATAL for TransportError only. -/
theorem raiseErr_mode (e : Err) (s : State) :
    (raiseErr e s).mode = if e = .transportError then .fatal else s.mode := by
  cases e <;> rfl

/-- Raising an error writes its code to LAST_ERR, but for SinkError. -/
theorem raiseErr_lastErr (e : Err) (s : State) :
    (raiseErr e s).lastErr = match e with | .sinkError _ => s.lastErr | e => errCode e := by
  cases e <;> rfl

/-- Raising an error touches a sink only for SinkError. -/
theorem raiseErr_sinks (e : Err) (s : State) :
    (raiseErr e s).sinks = match e with
      | .sinkError k => s.sinks.modify k fun snk => { snk with sinkErr := bump s.cfg snk.sinkErr }
      | _ => s.sinks := by
  cases e <;> rfl

/-- An offered ReadingSet: dropped oldest and counted when the FIFO is full, appended in either case. -/
theorem offerTo_cases (c : Config) (rs : ReadingSet) (snk : Sink) :
    (snk.q.length = c.qDepth ∧
      offerTo c rs snk = { snk with enq := bump c snk.enq, drop := bump c snk.drop, q := snk.q.tail ++ [rs] }) ∨
    (snk.q.length ≠ c.qDepth ∧ offerTo c rs snk = { snk with enq := bump c snk.enq, q := snk.q ++ [rs] }) := by
  unfold offerTo
  split
  · exact .inl ⟨by assumption, rfl⟩
  · exact .inr ⟨by assumption, rfl⟩

/-- A counter that is counted is a CTR_W-bit value. -/
theorem bump_lt (c : Config) (n : Nat) : bump c n < 2 ^ c.ctrW := Nat.mod_lt _ (Nat.two_pow_pos _)

/-- A FIFO after a dispatch: as before without its oldest entry if it was full, and the set at its tail. -/
theorem queue_dispatch {rs : ReadingSet} {s : State} {k : Nat} (hk : k < s.sinks.length) :
    (dispatch rs s).queue k =
      (if (s.queue k).length = s.cfg.qDepth then (s.queue k).tail else s.queue k) ++ [rs] := by
  have h : s.sinks[k]? = some s.sinks[k] := List.getElem?_eq_getElem hk
  have hd : (dispatch rs s).sinks[k]? = some (offerTo s.cfg rs s.sinks[k]) := by simp [h]
  rw [queue_of_getElem? hd, queue_of_getElem? h]
  obtain ⟨hl, h⟩ | ⟨hl, h⟩ := offerTo_cases s.cfg rs s.sinks[k] <;> simp [h, hl]

end Sys2Proof.Machine
end

