-- ==== Sys2Proof/Laws/Decoder.lean ====
section
/-! SUPPORT. What a completion and store(v) can do. -/
namespace Sys2Proof.Machine

/-- A slice inside a list, byte by byte. -/
theorem slice_eq_map_bufByte {l : List Byte} {o n : Nat} (h : o + n ≤ l.length) :
    slice l o n = (List.range n).map fun i => bufByte l (o + i) := by
  apply List.ext_getElem
  · simp [slice]
    omega
  · intro i _ hi
    have hn : i < n := by simpa using hi
    simp only [slice, bufByte, List.getElem_take, List.getElem_drop, List.getElem_map, List.getElem_range, List.getD_eq_getElem?_getD]
    rw [List.getElem?_eq_getElem (by omega)]
    rfl

/-- The only errors of a candidate are the three of R130. -/
theorem decodeCandidate_error {c : Config} {buf : List Byte} {ts : Nat} {e : Err}
    (h : decodeCandidate c buf ts = .error e) :
    e = .checksumError ∨ e = .unknownDeviceError ∨ e = .malformedPayloadError := by
  unfold decodeCandidate at h
  split at h
  · split at h
    · simp_all
    · split at h <;> simp_all
  · simp_all

/-- A candidate that decodes gives the set of the entry that matches it. -/
theorem decodeCandidate_ok {c : Config} {buf : List Byte} {ts : Nat} {rs : ReadingSet}
    (h : decodeCandidate c buf ts = .ok rs) :
    checksumOk c buf = true ∧ ∃ e, lookupEntry c (srcOf c buf) (cmdOf c buf) = some e ∧ payloadOk c e = true ∧
      rs = buildSet c e buf ts := by
  unfold decodeCandidate at h
  split at h
  · split at h
    · simp at h
    · split at h
      · exact ⟨by assumption, _, by assumption, by assumption, by simpa using h.symm⟩
      · simp at h
  · simp at h

/-- A completion either raises one of its three errors or emits the decoded set. -/
theorem complete_cases (s : State) :
    (∃ e, decodeCandidate s.cfg s.buf (sampleTs s) = .error e ∧
      (e = .checksumError ∨ e = .unknownDeviceError ∨ e = .malformedPayloadError) ∧
      complete s = raiseErr e (countCandidate s)) ∨
    ∃ rs, decodeCandidate s.cfg s.buf (sampleTs s) = .ok rs ∧ complete s = emit rs (countCandidate s) := by
  unfold complete
  cases h : decodeCandidate s.cfg s.buf (sampleTs s) with
  | error e => exact .inl ⟨e, rfl, decodeCandidate_error h, rfl⟩
  | ok rs => exact .inr ⟨rs, rfl, rfl⟩

/-- store(v) completes the candidate when v is its FRAME_LEN-th byte, and else accumulates. -/
theorem store_cases (v : Byte) (s : State) :
    ((s.cnt + 1).toNat = s.cfg.frameLen ∧ store v s = setSync .seekIdle (discard (complete (putByte v s)))) ∨
    ((s.cnt + 1).toNat ≠ s.cfg.frameLen ∧ store v s = setSync .accum (putByte v s)) := by
  unfold store settle
  by_cases h : (s.cnt + 1).toNat = s.cfg.frameLen
  · exact .inl ⟨h, by simp only [putByte_cnt, putByte_cfg, h, if_true]⟩
  · exact .inr ⟨h, by simp only [putByte_cnt, putByte_cfg, h, if_false]⟩

@[simp] theorem complete_cfg (s : State) : (complete s).cfg = s.cfg := by
  obtain ⟨e, -, he, h⟩ | ⟨rs, -, h⟩ := complete_cases s
  · obtain rfl | rfl | rfl := he <;> rw [h] <;> rfl
  · rw [h]; rfl

@[simp] theorem complete_syncSt (s : State) : (complete s).syncSt = s.syncSt := by
  obtain ⟨e, -, he, h⟩ | ⟨rs, -, h⟩ := complete_cases s
  · obtain rfl | rfl | rfl := he <;> rw [h] <;> rfl
  · rw [h]; rfl

@[simp] theorem complete_cnt (s : State) : (complete s).cnt = s.cnt := by
  obtain ⟨e, -, he, h⟩ | ⟨rs, -, h⟩ := complete_cases s
  · obtain rfl | rfl | rfl := he <;> rw [h] <;> rfl
  · rw [h]; rfl

@[simp] theorem complete_buf (s : State) : (complete s).buf = s.buf := by
  obtain ⟨e, -, he, h⟩ | ⟨rs, -, h⟩ := complete_cases s
  · obtain rfl | rfl | rfl := he <;> rw [h] <;> rfl
  · rw [h]; rfl

@[simp] theorem complete_ctrBytes (s : State) : (complete s).ctrBytes = s.ctrBytes := by
  obtain ⟨e, -, he, h⟩ | ⟨rs, -, h⟩ := complete_cases s
  · obtain rfl | rfl | rfl := he <;> rw [h] <;> rfl
  · rw [h]; rfl

@[simp] theorem complete_ctrTrunc (s : State) : (complete s).ctrTrunc = s.ctrTrunc := by
  obtain ⟨e, -, he, h⟩ | ⟨rs, -, h⟩ := complete_cases s
  · obtain rfl | rfl | rfl := he <;> rw [h] <;> rfl
  · rw [h]; rfl

@[simp] theorem complete_ctrEscErr (s : State) : (complete s).ctrEscErr = s.ctrEscErr := by
  obtain ⟨e, -, he, h⟩ | ⟨rs, -, h⟩ := complete_cases s
  · obtain rfl | rfl | rfl := he <;> rw [h] <;> rfl
  · rw [h]; rfl

@[simp] theorem complete_tsIn (s : State) : (complete s).tsIn = s.tsIn := by
  obtain ⟨e, -, he, h⟩ | ⟨rs, -, h⟩ := complete_cases s
  · obtain rfl | rfl | rfl := he <;> rw [h] <;> rfl
  · rw [h]; rfl

@[simp] theorem complete_pending (s : State) : (complete s).pending = s.pending := by
  obtain ⟨e, -, he, h⟩ | ⟨rs, -, h⟩ := complete_cases s
  · obtain rfl | rfl | rfl := he <;> rw [h] <;> rfl
  · rw [h]; rfl

@[simp] theorem complete_draws (s : State) : (complete s).draws = s.draws := by
  obtain ⟨e, -, he, h⟩ | ⟨rs, -, h⟩ := complete_cases s
  · obtain rfl | rfl | rfl := he <;> rw [h] <;> rfl
  · rw [h]; rfl

@[simp] theorem complete_mode (s : State) : (complete s).mode = s.mode := by
  obtain ⟨e, -, he, h⟩ | ⟨rs, -, h⟩ := complete_cases s
  · obtain rfl | rfl | rfl := he <;> rw [h] <;> rfl
  · rw [h]; rfl

@[simp] theorem store_cfg (v : Byte) (s : State) : (store v s).cfg = s.cfg := by
  obtain ⟨-, h⟩ | ⟨-, h⟩ := store_cases v s <;> simp [h]

@[simp] theorem store_ctrBytes (v : Byte) (s : State) : (store v s).ctrBytes = s.ctrBytes := by
  obtain ⟨-, h⟩ | ⟨-, h⟩ := store_cases v s <;> simp [h]

@[simp] theorem store_ctrTrunc (v : Byte) (s : State) : (store v s).ctrTrunc = s.ctrTrunc := by
  obtain ⟨-, h⟩ | ⟨-, h⟩ := store_cases v s <;> simp [h]

@[simp] theorem store_ctrEscErr (v : Byte) (s : State) : (store v s).ctrEscErr = s.ctrEscErr := by
  obtain ⟨-, h⟩ | ⟨-, h⟩ := store_cases v s <;> simp [h]

@[simp] theorem store_tsIn (v : Byte) (s : State) : (store v s).tsIn = s.tsIn := by
  obtain ⟨-, h⟩ | ⟨-, h⟩ := store_cases v s <;> simp [h]

@[simp] theorem store_pending (v : Byte) (s : State) : (store v s).pending = s.pending := by
  obtain ⟨-, h⟩ | ⟨-, h⟩ := store_cases v s <;> simp [h]

@[simp] theorem store_draws (v : Byte) (s : State) : (store v s).draws = s.draws := by
  obtain ⟨-, h⟩ | ⟨-, h⟩ := store_cases v s <;> simp [h]

@[simp] theorem store_mode (v : Byte) (s : State) : (store v s).mode = s.mode := by
  obtain ⟨-, h⟩ | ⟨-, h⟩ := store_cases v s <;> simp [h]

/-- store(v) writes BUF at CNT and nowhere else. -/
@[simp] theorem store_buf (v : Byte) (s : State) : (store v s).buf = s.buf.set s.cnt.toNat v := by
  obtain ⟨-, h⟩ | ⟨-, h⟩ := store_cases v s <;> simp [h]

end Sys2Proof.Machine
end

