-- ==== Sys2Proof/Laws/PerInstr.lean ====
section
/-! SUPPORT. The per-instruction families of LAWS.json. EncodeParse: the word of a well-formed instruction spells the event it is a
form of (30_encoding.md R80 to R85), whatever SYNC_ST is. -/
namespace Sys2Proof.Laws.EncodeParse

/-- The encoded word of the instruction spells its event under every configuration that admits it. -/
def Statement (i : Instr) : Prop := ∀ c : Config, i.wf c = true → parseEvent c (encode c i) = .ok (i.event c)

/-- The fields of a BYTE word (R81). -/
theorem byte_fields : ∀ b : Byte,
    evKind (encodeEvent (.byte b)) = 1 ∧ evArg (encodeEvent (.byte b)) = 0 ∧ evData (encodeEvent (.byte b)) = b := by
  decide

/-- The fields of a POP.OK word (R82). -/
theorem popOk_fields : ∀ k : BitVec 4,
    evKind (encodeEvent (.popOk k)) = 2 ∧ evArg (encodeEvent (.popOk k)) = k ∧
    (encodeEvent (.popOk k)).extractLsb' 1 7 = 0 ∧ (encodeEvent (.popOk k)).getLsbD 0 = false := by
  decide

/-- The fields of a POP.ERR word (R82). -/
theorem popErr_fields : ∀ k : BitVec 4,
    evKind (encodeEvent (.popErr k)) = 2 ∧ evArg (encodeEvent (.popErr k)) = k ∧
    (encodeEvent (.popErr k)).extractLsb' 1 7 = 0 ∧ (encodeEvent (.popErr k)).getLsbD 0 = true := by
  decide

/-- The word of a BYTE event spells it (R81). -/
theorem parse_byte (c : Config) (b : Byte) : parseEvent c (encodeEvent (.byte b)) = .ok (.byte b) := by
  obtain ⟨hk, ha, hd⟩ := byte_fields b
  unfold parseEvent
  rw [hk, ha, hd]
  rfl

/-- The word of a POP.OK event spells it, for a sink that exists (R82). -/
theorem parse_popOk (c : Config) (k : BitVec 4) (h : k.toNat < c.nSinks) :
    parseEvent c (encodeEvent (.popOk k)) = .ok (.popOk k) := by
  obtain ⟨hk, ha, hr, hs⟩ := popOk_fields k
  unfold parseEvent
  rw [hk, ha, hr, hs]
  simp [not_le.mpr h]

/-- The word of a POP.ERR event spells it, for a sink that exists (R82). -/
theorem parse_popErr (c : Config) (k : BitVec 4) (h : k.toNat < c.nSinks) :
    parseEvent c (encodeEvent (.popErr k)) = .ok (.popErr k) := by
  obtain ⟨hk, ha, hr, hs⟩ := popErr_fields k
  unfold parseEvent
  rw [hk, ha, hr, hs]
  simp [not_le.mpr h]

theorem seekIdleSync0 : Statement .seekIdleSync0 := fun c _ => parse_byte c _
theorem seekIdleNoise (b : Byte) : Statement (.seekIdleNoise b) := fun c _ => parse_byte c _
theorem seekS1Sync1 : Statement .seekS1Sync1 := fun c _ => parse_byte c _
theorem seekS1Sync0 : Statement .seekS1Sync0 := fun c _ => parse_byte c _
theorem seekS1Noise (b : Byte) : Statement (.seekS1Noise b) := fun c _ => parse_byte c _
theorem accumEscLead : Statement .accumEscLead := fun c _ => parse_byte c _
theorem accumLiteral (b : Byte) : Statement (.accumLiteral b) := fun c _ => parse_byte c _
theorem accEscEscLit : Statement .accEscEscLit := fun c _ => parse_byte c _
theorem accEscSync1 : Statement .accEscSync1 := fun c _ => parse_byte c _
theorem accEscSync0 : Statement .accEscSync0 := fun c _ => parse_byte c _
theorem accEscBad (b : Byte) : Statement (.accEscBad b) := fun c _ => parse_byte c _
theorem popOk (k : BitVec 4) : Statement (.popOk k) := fun c h => parse_popOk c k (by simpa [Instr.wf] using h)
theorem popErr (k : BitVec 4) : Statement (.popErr k) := fun c h => parse_popErr c k (by simpa [Instr.wf] using h)
theorem xportErr : Statement .xportErr := fun _ _ => by simp [parseEvent, encode, Instr.event, encodeEvent, evKind]
theorem shutdown : Statement .shutdown := fun _ _ => by simp [parseEvent, encode, Instr.event, encodeEvent, evKind]
theorem reset : Statement .reset := fun _ _ => by simp [parseEvent, encode, Instr.event, encodeEvent, evKind]

end Sys2Proof.Laws.EncodeParse
end

