-- ==== Sys2Proof/Laws/Step.lean ====
section
/-! SUPPORT. What a step is: the offer it takes, the instruction it runs, and the effect of each. -/
namespace Sys2Proof.Machine

/-- A step that answers next took the first offer under an admitted configuration and executed what its word decodes to. -/
theorem step_eq_next {s t : State} (h : step s = .next t) :
    s.cfg.wf = true ∧ ∃ o rest i, s.pending = o :: rest ∧ decode s.cfg s.syncSt o.word = .ok i ∧
      fetch s = .run i (takeOffer o rest s) ∧ exec i (takeOffer o rest s) = .next t := by
  unfold step fetch at h
  unfold fetch
  by_cases hw : s.cfg.wf = true
  · cases hp : s.pending with
    | nil => simp [hw, hp, execFetched] at h
    | cons o rest =>
      cases hd : decode s.cfg s.syncSt o.word with
      | error r => simp [hw, hp, hd, execFetched] at h
      | ok i => exact ⟨hw, o, rest, i, rfl, hd, by simp [hw, hd], by simpa [hw, hp, hd, execFetched] using h⟩
  · simp [hw, execFetched] at h

/-- The effect of a BYTE form, after its byte is counted (R102 to R112). The other events are none. -/
def byteEffect (c : Config) : Instr → State → State
  | .seekIdleSync0 => setSync .seekS1
  | .seekIdleNoise _ => setSync .seekIdle
  | .seekS1Sync1 => startFrame
  | .seekS1Sync0 => setSync .seekS1
  | .seekS1Noise _ => setSync .seekIdle
  | .accumEscLead => setSync .accEsc
  | .accumLiteral b => store b
  | .accEscEscLit => store c.sync0
  | .accEscSync1 => truncate
  | .accEscSync0 => badEscape .seekS1
  | .accEscBad _ => badEscape .seekIdle
  | .popOk _ => id
  | .popErr _ => id
  | .xportErr => id
  | .shutdown => id
  | .reset => id

/-- A BYTE form answers next exactly in RUN, where SYNC_ST and the byte select it. -/
theorem exec_byte_eq_next {i : Instr} {s t : State} (hb : i.isByte = true) :
    exec i s = .next t ↔ s.mode = .run ∧ i.formState = some s.syncSt ∧ i.wf s.cfg = true ∧
      t = byteEffect s.cfg i (countByte s) := by
  cases i with
  | popOk _ => simp [Instr.isByte, Instr.formState] at hb
  | popErr _ => simp [Instr.isByte, Instr.formState] at hb
  | xportErr => simp [Instr.isByte, Instr.formState] at hb
  | shutdown => simp [Instr.isByte, Instr.formState] at hb
  | reset => simp [Instr.isByte, Instr.formState] at hb
  | _ =>
    simp only [exec, execSeekIdleSync0, execSeekIdleNoise, execSeekS1Sync1, execSeekS1Sync0, execSeekS1Noise,
      execAccumEscLead, execAccumLiteral, execAccEscEscLit, execAccEscSync1, execAccEscSync0, execAccEscBad,
      byteForm_eq_next, Instr.formState, Instr.wf, byteEffect, Option.some.injEq]
    exact ⟨fun ⟨hm, hs, hc, ht⟩ => ⟨hm, hs.symm, hc, ht⟩, fun ⟨hm, hs, hc, ht⟩ => ⟨hm, hs.symm, hc, ht⟩⟩

/-- Every effect exec can have, one disjunct per kind of event. -/
theorem exec_eq_next {i : Instr} {s t : State} (h : exec i s = .next t) :
    (i.isByte = true ∧ s.mode = .run ∧ i.formState = some s.syncSt ∧ i.wf s.cfg = true ∧
      t = byteEffect s.cfg i (countByte s)) ∨
    (∃ k, i = .popOk k ∧ k.toNat < s.cfg.nSinks ∧ s.queue k.toNat ≠ [] ∧
      t = drainCheck (countDelivered k.toNat (dropHead k.toNat s))) ∨
    (∃ k, i = .popErr k ∧ k.toNat < s.cfg.nSinks ∧ s.queue k.toNat ≠ [] ∧
      t = drainCheck (raiseErr (.sinkError k.toNat) (dropHead k.toNat s))) ∨
    (i = .xportErr ∧ s.mode = .run ∧ t = raiseErr .transportError (setSync .seekIdle (discard s))) ∨
    (i = .shutdown ∧ s.mode = .run ∧ t = closeMode (setSync .seekIdle (discard s))) ∨
    (i = .reset ∧ t = resetState s) := by
  cases i with
  | popOk k => exact .inr (.inl ⟨k, rfl, popSink_eq_next.mp h⟩)
  | popErr k => exact .inr (.inr (.inl ⟨k, rfl, popSink_eq_next.mp h⟩))
  | xportErr =>
    simp only [exec, execXportErr] at h
    split at h
    · simp at h
    · exact .inr (.inr (.inr (.inl ⟨rfl, by simp_all, by simpa using h.symm⟩)))
  | shutdown =>
    simp only [exec, execShutdown] at h
    split at h
    · simp at h
    · exact .inr (.inr (.inr (.inr (.inl ⟨rfl, by simp_all, by simpa using h.symm⟩))))
  | reset => exact .inr (.inr (.inr (.inr (.inr ⟨rfl, by simpa [exec, execReset] using h.symm⟩))))
  | _ => exact .inl ⟨rfl, (exec_byte_eq_next rfl).mp h⟩

end Sys2Proof.Machine
end

