-- ==== Sys2Proof/Laws/Table.lean ====
section
/-! SUPPORT. What an admitted configuration satisfies, as propositions. -/
namespace Sys2Proof

/-- The admission check as the list of its conditions. -/
theorem Config.wf_iff {c : Config} :
    c.wf = true ↔
      c.sync0 ≠ c.sync1 ∧ c.sync0 ≠ c.escLit ∧ c.sync1 ≠ c.escLit ∧
      (1 ≤ c.qDepth ∧ c.qDepth ≤ 255) ∧ (1 ≤ c.nSinks ∧ c.nSinks ≤ 16) ∧ c.frameLen ≤ 255 ∧
      (1 ≤ c.maxEntries ∧ c.maxEntries ≤ 255) ∧ c.maxFields ≤ 15 ∧ c.tsW ≤ 64 ∧
      c.table.length = c.maxEntries ∧ c.table.all (Entry.wf c) = true :=
  decide_eq_true_iff

/-- The three framing bytes differ (R6). -/
theorem Config.framing_bytes_differ {c : Config} (h : c.wf = true) :
    c.sync0 ≠ c.sync1 ∧ c.sync0 ≠ c.escLit ∧ c.sync1 ≠ c.escLit := by
  obtain ⟨h1, h2, h3, -⟩ := Config.wf_iff.mp h
  exact ⟨h1, h2, h3⟩

/-- A FIFO holds at least one set (R6). -/
theorem Config.one_le_qDepth {c : Config} (h : c.wf = true) : 1 ≤ c.qDepth := by
  obtain ⟨-, -, -, ⟨h, -⟩, -⟩ := Config.wf_iff.mp h
  exact h

/-- A frame is longer than its sentinel and no longer than CNT can count (R5, R6). -/
theorem Config.frameLen_bounds {c : Config} (h : c.wf = true) : 3 ≤ c.frameLen ∧ c.frameLen ≤ 255 := by
  obtain ⟨-, -, -, -, -, h, -⟩ := Config.wf_iff.mp h
  exact ⟨by unfold Config.frameLen; omega, h⟩

/-- An entry of an admitted configuration has a descriptor for each of its NF fields (R95; log entry 10). -/
theorem Config.nf_le_descs_length {c : Config} {e : Entry} (h : c.wf = true) (he : e ∈ c.table) :
    (hdrNf e.hdr).toNat ≤ e.descs.length := by
  obtain ⟨-, -, -, -, -, -, -, -, -, -, ht⟩ := Config.wf_iff.mp h
  have hw := List.all_eq_true.mp ht e he
  simp only [Entry.wf, Bool.and_eq_true, beq_iff_eq, decide_eq_true_eq] at hw
  omega

end Sys2Proof
end

