-- ==== Sys2Proof/Tests/Slice0.lean ====
section
/-! SUPPORT. The model's own tests. Words, frames and results are those of spec/95_test_vectors.md (the vector's id stands in each
docstring) or hand calculation from the rule named. The witnesses at the end meet the hypotheses of the obligations. -/
namespace Sys2Proof.Tests
open Sys2Proof.Machine

/-- V-F1, logical bytes. -/
def frameF1 : List Byte :=
  [0xAA, 0x55, 0x10, 0x00, 0x01, 0xF4, 0x01, 0xE1, 0x00, 0xCE, 0xFF, 0x00, 0x00, 0x84, 0x03, 0xFF, 0x7F, 0x00, 0x80, 0xAA,
    0x00, 0x64, 0x46]

/-- V-F1, wire bytes. -/
def wireF1 : List Byte :=
  [0xAA, 0x55, 0x10, 0x00, 0x01, 0xF4, 0x01, 0xE1, 0x00, 0xCE, 0xFF, 0x00, 0x00, 0x84, 0x03, 0xFF, 0x7F, 0x00, 0x80, 0xAA,
    0x00, 0x00, 0x64, 0x46]

/-- A RUN state of the default configuration in a synchronizer state, with a CNT and V-F1 in BUF. -/
def inSync (st : SyncState) (n : BitVec 8) : State := { State.reset with syncSt := st, cnt := n, buf := frameF1 }

/-- The state with another MODE. -/
def inMode (m : Mode) (s : State) : State := { s with mode := m }

/-- A set with one reading, told apart by TS. -/
def oneSet (ts : Nat) : ReadingSet := ⟨0x10, 0x0100, ts, [⟨500, 10, true, .temperature, 0⟩]⟩

/-- A sink that holds some sets, with counters at 0. -/
def sinkOf (q : List ReadingSet) : Sink := { Sink.initial with q := q }

/-- The state with these FIFOs. -/
def withQueues (q0 q1 : List ReadingSet) (s : State) : State := { s with sinks := [sinkOf q0, sinkOf q1] }

/-- The state with one word offered, at TS 7. -/
def offering (w : EventWord) (s : State) : State := { s with pending := [⟨w, 7⟩] }

/-- The step answers a next state with a property. -/
def stepTo (s : State) (p : State → Bool) : Bool :=
  match step s with
  | .next t => p t
  | _ => false

/-- The step stops with this fault. -/
def stopsWith (s : State) (f : Fault) : Bool :=
  match step s with
  | .fault g => g == f
  | _ => false

/-- The step refuses with this reason. -/
def refusesWith (s : State) (r : Refusal) : Bool :=
  match step s with
  | .refused q => q == r
  | _ => false

/-- SYNC_ST, CNT and CTR_BYTES of a state. -/
def syncView (s : State) : SyncState × BitVec 8 × Nat := (s.syncSt, s.cnt, s.ctrBytes)

/-- CTR_CAND, CTR_OK and the five error counters, in the order of R26. -/
def counters (s : State) : List Nat :=
  [s.ctrCand, s.ctrOk, s.ctrCkErr, s.ctrUnkDev, s.ctrMalf, s.ctrTrunc, s.ctrEscErr]

/-- An outcome is a next state. -/
def isNext (o : Host.Outcome State Fault Refusal) : Bool :=
  match o with
  | .next _ => true
  | _ => false

theorem exists_next {o : Host.Outcome State Fault Refusal} (h : isNext o = true) : ∃ t, o = .next t := by
  cases o with
  | next t => exact ⟨t, rfl⟩
  | fault _ => cases h
  | refused _ => cases h

/-! WellFormed: an ill-formed term for each check. -/

/-- The byte operand must be of the form's class (R90). -/
theorem test_wf_refuses_bytes_of_another_class :
    (Instr.seekIdleNoise 0xAA).wf Config.default = false ∧ (Instr.seekS1Noise 0xAA).wf Config.default = false ∧
    (Instr.seekS1Noise 0x55).wf Config.default = false ∧ (Instr.accumLiteral 0xAA).wf Config.default = false ∧
    (Instr.accEscBad 0x00).wf Config.default = false ∧ (Instr.accEscBad 0x55).wf Config.default = false ∧
    (Instr.accEscBad 0xAA).wf Config.default = false := by decide

/-- The sink index must be below N_SINKS (R87). -/
theorem test_wf_refuses_absent_sinks :
    (Instr.popOk 2).wf Config.default = false ∧ (Instr.popErr 15).wf Config.default = false := by decide

/-- The bytes at the edges of each class are admitted. -/
theorem test_wf_admits :
    (Instr.seekIdleNoise 0x55).wf Config.default = true ∧ (Instr.seekS1Noise 0x00).wf Config.default = true ∧
    (Instr.accumLiteral 0x55).wf Config.default = true ∧ (Instr.accEscBad 0x01).wf Config.default = true ∧
    (Instr.popOk 1).wf Config.default = true := by decide

/-- The three framing bytes must differ (R6). -/
theorem test_config_refuses_equal_framing_bytes :
    Config.wf { Config.default with sync1 := 0xAA } = false ∧ Config.wf { Config.default with escLit := 0xAA } = false ∧
    Config.wf { Config.default with escLit := 0x55 } = false := by decide

/-- QDEPTH and N_SINKS must be in their ranges (R6). -/
theorem test_config_refuses_depth_and_sinks :
    Config.wf { Config.default with qDepth := 0 } = false ∧ Config.wf { Config.default with qDepth := 256 } = false ∧
    Config.wf { Config.default with nSinks := 0 } = false ∧ Config.wf { Config.default with nSinks := 17 } = false := by
  decide

/-- FRAME_LEN ≤ 255 (R6): a payload of 250 bytes makes 256. -/
theorem test_config_refuses_long_frames : Config.wf { Config.default with payloadLen := 250 } = false := by decide

/-- The sizes of TABLE and TS_W (R5, R95, R96; log entry 10). -/
theorem test_config_refuses_sizes :
    Config.wf { Config.default with maxEntries := 0, table := [] } = false ∧
    Config.wf { Config.default with maxEntries := 7 } = false ∧ Config.wf { Config.default with maxFields := 16 } = false ∧
    Config.wf { Config.default with tsW := 65 } = false := by decide

/-- The reserved bits of a header, the number of descriptors, NF (R95; log entry 10). -/
theorem test_entry_refuses :
    Entry.wf Config.default { defaultEntry with hdr := 0xC911000000100100 } = false ∧
    Entry.wf Config.default { defaultEntry with hdr := 0x8911000001100100 } = false ∧
    Entry.wf Config.default { defaultEntry with descs := [] } = false ∧
    Entry.wf { Config.default with maxFields := 8 } { defaultEntry with descs := defaultEntry.descs.take 8 } = false := by
  decide

/-- The default configuration is admitted (R5, R98). -/
theorem test_default_config : Config.default.wf = true := by decide

/-! Decoding: words written out from the encodings. KIND is 15:12, ARG 11:8, DATA 7:0. -/

/-- BYTE words in SEEK_IDLE and SEEK_S1 (R81, R90): 0001 0000 bbbbbbbb. E-1. -/
theorem test_decode_seeking :
    decode Config.default .seekIdle 0b0001000010101010 = .ok .seekIdleSync0 ∧
    decode Config.default .seekIdle 0b0001000001010101 = .ok (.seekIdleNoise 0x55) ∧
    decode Config.default .seekS1 0b0001000001010101 = .ok .seekS1Sync1 ∧
    decode Config.default .seekS1 0b0001000010101010 = .ok .seekS1Sync0 ∧
    decode Config.default .seekS1 0b0001000000010011 = .ok (.seekS1Noise 0x13) := ⟨rfl, rfl, rfl, rfl, rfl⟩

/-- BYTE words in ACCUM and ACC_ESC (R81, R90). -/
theorem test_decode_accumulating :
    decode Config.default .accum 0b0001000010101010 = .ok .accumEscLead ∧
    decode Config.default .accum 0b0001000000000000 = .ok (.accumLiteral 0) ∧
    decode Config.default .accEsc 0b0001000000000000 = .ok .accEscEscLit ∧
    decode Config.default .accEsc 0b0001000001010101 = .ok .accEscSync1 ∧
    decode Config.default .accEsc 0b0001000010101010 = .ok .accEscSync0 ∧
    decode Config.default .accEsc 0b0001000011111111 = .ok (.accEscBad 0xFF) := ⟨rfl, rfl, rfl, rfl, rfl, rfl⟩

/-- POP words (R82): 0010 kkkk 0000000s. E-3. -/
theorem test_decode_pop :
    decode Config.default .accum 0b0010000100000000 = .ok (.popOk 1) ∧
    decode Config.default .seekIdle 0b0010000100000001 = .ok (.popErr 1) := ⟨rfl, rfl⟩

/-- The control words (R83, R84, R85). E-9. -/
theorem test_decode_control :
    decode Config.default .seekIdle 0b0011000000000000 = .ok .xportErr ∧
    decode Config.default .seekS1 0b0100000000000000 = .ok .shutdown ∧
    decode Config.default .accEsc 0b0101000000000000 = .ok .reset := ⟨rfl, rfl, rfl⟩

/-- The refused words E-2, E-4 to E-8, and KIND 6 (R87). -/
theorem test_decode_refuses :
    decode Config.default .accum 0x1100 = .error .byteArg ∧ decode Config.default .accum 0x2200 = .error .popSink ∧
    decode Config.default .accum 0x2002 = .error .popStatus ∧ decode Config.default .accum 0x3001 = .error .controlOperand ∧
    decode Config.default .accum 0x0000 = .error .kind ∧ decode Config.default .accum 0xF000 = .error .kind ∧
    decode Config.default .accum 0x6000 = .error .kind := ⟨rfl, rfl, rfl, rfl, rfl, rfl, rfl⟩

/-- The table's words at reset (R102, R82, R85). -/
theorem test_decode_table_word :
    decodeTableWord 16 0x10AA = some .seekIdleSync0 ∧ decodeTableWord 16 0x1000 = some (.seekIdleNoise 0) ∧
    decodeTableWord 16 0x2000 = some (.popOk 0) ∧ decodeTableWord 16 0x5000 = some .reset ∧
    decodeTableWord 16 0x6000 = none := by decide

/-- The host's first step after reset runs the word it offers. -/
theorem test_with_fetch_word : stepTo (State.reset.withFetchWord 16 0x4000) (fun t => t.mode == .halted) = true := by decide

/-- The words of the encoder (R81, R82). -/
theorem test_encode :
    encode Config.default .accEscSync1 = 0x1055 ∧ encode Config.default (.popErr 1) = 0x2101 ∧
    encode { Config.default with sync0 := 0x7E } .accumEscLead = 0x107E := by decide

/-! One step of each instruction. -/

/-- S-1. -/
theorem test_seekIdleSync0 : stepTo (offering 0x10AA State.reset) (syncView · == (.seekS1, 0, 1)) = true := by decide

/-- S-3: SYNC1 alone is noise. -/
theorem test_seekIdleNoise : stepTo (offering 0x1055 State.reset) (syncView · == (.seekIdle, 0, 1)) = true := by decide

/-- S-4, from a BUF of zeros. -/
theorem test_seekS1Sync1 :
    stepTo (offering 0x1055 { State.reset with syncSt := .seekS1 }) (fun t =>
      syncView t == (.accum, 2, 1) && t.buf.take 3 == [0xAA, 0x55, 0x00]) = true := by decide

/-- S-5. -/
theorem test_seekS1Sync0 : stepTo (offering 0x10AA (inSync .seekS1 0)) (syncView · == (.seekS1, 0, 1)) = true := by decide

/-- S-6. -/
theorem test_seekS1Noise : stepTo (offering 0x1000 (inSync .seekS1 0)) (syncView · == (.seekIdle, 0, 1)) = true := by decide

/-- S-8. -/
theorem test_accumEscLead :
    stepTo (offering 0x10AA (inSync .accum 2)) (fun t => syncView t == (.accEsc, 2, 1) && t.buf == frameF1) = true := by decide

/-- S-9: SYNC1 is literal in a frame. -/
theorem test_accumLiteral :
    stepTo (offering 0x1055 (inSync .accum 2)) (fun t =>
      syncView t == (.accum, 3, 1) && bufByte t.buf 2 == 0x55 && counters t == [0, 0, 0, 0, 0, 0, 0]) = true := by decide

/-- S-16: the last byte completes V-F1, TS sampled in this step. -/
theorem test_accumLiteral_completes :
    stepTo (offering 0x1046 (inSync .accum 22)) (fun t =>
      syncView t == (.seekIdle, 0, 1) && counters t == [1, 1, 0, 0, 0, 0, 0] && t.lastErr == 0 &&
      t.sinks.all (fun k => k.q.map ReadingSet.ts == [7] && k.enq == 1 && k.drop == 0)) = true := by decide

/-- S-11. -/
theorem test_accEscEscLit :
    stepTo (offering 0x1000 (inSync .accEsc 19)) (fun t => syncView t == (.accum, 20, 1) && bufByte t.buf 19 == 0xAA) = true := by
  decide

/-- S-17, its last step: the checksum byte is an escaped AA. -/
theorem test_accEscEscLit_completes :
    stepTo (offering 0x1000 { inSync .accEsc 22 with buf := frameF1.take 21 ++ [0xC8, 0x00] }) (fun t =>
      syncView t == (.seekIdle, 0, 1) && counters t == [1, 1, 0, 0, 0, 0, 0] && bufByte t.buf 22 == 0xAA) = true := by decide

/-- S-12. -/
theorem test_accEscSync1 :
    stepTo (offering 0x1055 (inSync .accEsc 9)) (fun t =>
      syncView t == (.accum, 2, 1) && counters t == [0, 0, 0, 0, 0, 1, 0] && t.lastErr == 4 && t.buf.take 2 == [0xAA, 0x55]) =
      true := by decide

/-- S-13. -/
theorem test_accEscSync0 :
    stepTo (offering 0x10AA (inSync .accEsc 9)) (fun t =>
      syncView t == (.seekS1, 0, 1) && counters t == [0, 0, 0, 0, 0, 0, 1] && t.lastErr == 5) = true := by decide

/-- S-14. -/
theorem test_accEscBad :
    stepTo (offering 0x1001 (inSync .accEsc 9)) (fun t =>
      syncView t == (.seekIdle, 0, 1) && counters t == [0, 0, 0, 0, 0, 0, 1] && t.lastErr == 5) = true := by decide

/-- S-21, K-6. -/
theorem test_byte_outside_run :
    stopsWith (offering 0x1000 (inMode .closing State.reset)) .byteOutsideRun = true ∧
    stopsWith (offering 0x10AA (inMode .fatal State.reset)) .byteOutsideRun = true := by decide

/-- Q-4, Q-6. -/
theorem test_popOk :
    stepTo (offering 0x2000 (withQueues [oneSet 1] [] State.reset)) (fun t =>
      t.queue 0 == [] && t.sinks.map Sink.deliv == [1, 0] && t.mode == .run) = true ∧
    stopsWith (offering 0x2000 State.reset) .popEmpty = true := by decide

/-- Q-7, Q-9. -/
theorem test_popOk_modes :
    stepTo (offering 0x2000 (inMode .closing (withQueues [oneSet 1] [oneSet 2] State.reset))) (fun t => t.mode == .closing) = true ∧
    stepTo (offering 0x2000 (inMode .fatal (withQueues [oneSet 1] [] State.reset))) (fun t =>
      t.mode == .fatal && t.queue 0 == []) = true := by decide

/-- Q-5. -/
theorem test_popErr :
    stepTo (offering 0x2101 { withQueues [] [oneSet 1, oneSet 2] State.reset with lastErr := 4 }) (fun t =>
      t.queue 1 == [oneSet 2] && t.sinks.map Sink.sinkErr == [0, 1] && t.lastErr == 4) = true := by decide

/-- Q-8. -/
theorem test_popErr_drains :
    stepTo (offering 0x2101 (inMode .closing (withQueues [] [oneSet 2] State.reset))) (fun t =>
      t.mode == .halted && t.sinks.map Sink.sinkErr == [0, 1]) = true := by decide

/-- K-1. -/
theorem test_xportErr :
    stepTo (offering 0x3000 (inSync .accEsc 19)) (fun t =>
      syncView t == (.seekIdle, 0, 0) && t.mode == .fatal && t.lastErr == 7 && counters t == [0, 0, 0, 0, 0, 0, 0]) = true := by
  decide

/-- K-2. -/
theorem test_xportErr_outside_run : stopsWith (offering 0x3000 (inMode .closing State.reset)) .xportErrOutsideRun = true := by decide

/-- K-3. -/
theorem test_shutdown :
    stepTo (offering 0x4000 { inSync .accum 7 with lastErr := 2 }) (fun t =>
      syncView t == (.seekIdle, 0, 0) && t.mode == .halted && t.lastErr == 2) = true := by decide

/-- K-4, K-5. -/
theorem test_shutdown_modes :
    stepTo (offering 0x4000 (withQueues [oneSet 1] [] State.reset)) (fun t => t.mode == .closing) = true ∧
    stopsWith (offering 0x4000 (inMode .fatal State.reset)) .shutdownOutsideRun = true := by decide

/-- K-7, K-8: BUF is left out, its bytes are free. -/
theorem test_reset :
    stepTo (offering 0x5000 (inMode .halted State.reset)) (fun t => t.mode == .run) = true ∧
    stepTo (offering 0x5000 { withQueues [] [oneSet 1] (inSync .accum 12) with ctrOk := 3, lastErr := 2 }) (fun t =>
      syncView t == (.seekIdle, 0, 0) && t.sinks == State.reset.sinks && t.ctrOk == 0 && t.lastErr == 0) = true := by decide

/-- A reserved word, no event, and an ill-formed configuration stop a step by name (R87, R212, R6). -/
theorem test_step_stops :
    refusesWith (offering 0x2200 State.reset) (.reservedWord .popSink) = true ∧
    stopsWith State.reset .noEventOffered = true ∧
    refusesWith { State.reset with cfg := { Config.default with qDepth := 0 } } .illFormedConfig = true := by decide

/-! The decoder and the dispatcher. -/

/-- The default configuration with other descriptors and header of entry 0. -/
def withEntry (hdr : BitVec 64) (descs : List (BitVec 32)) : Config :=
  { Config.default with table := { hdr := hdr, descs := descs } :: List.replicate 7 unusedEntry }

/-- The RAW values and divisors a candidate decodes to. -/
def rawsOf (c : Config) (l : List Byte) : Option (List (Int × Nat)) :=
  (decodeCandidate c l 1).toOption.map fun rs => rs.readings.map fun r => (intRaw r, r.div.toNat)

/-- The error a candidate raises. -/
def errorOf (c : Config) (l : List Byte) : Option Err :=
  match decodeCandidate c l 1 with
  | .error e => some e
  | .ok _ => none

/-- D-1. -/
theorem test_decode_reference :
    rawsOf Config.default frameF1 =
      some [(500, 10), (225, 10), (-50, 10), (0, 10), (900, 10), (32767, 10), (-32768, 10), (170, 10), (100, 1)] := by decide

/-- D-2, D-3: XOR8. -/
theorem test_decode_xor8 :
    errorOf { Config.default with ckAlg := .xor8 } frameF1 = some .checksumError ∧
    rawsOf { Config.default with ckAlg := .xor8 } (frameF1.set 22 0x82) = rawsOf Config.default frameF1 := by decide

/-- D-4, D-5, D-6, D-7. -/
theorem test_decode_errors :
    errorOf Config.default (frameF1.set 22 0x47) = some .checksumError ∧
    errorOf Config.default ((frameF1.set 2 0x11).set 22 0x47) = some .unknownDeviceError ∧
    errorOf Config.default ((frameF1.set 4 0x02).set 22 0x47) = some .unknownDeviceError ∧
    errorOf Config.default ((frameF1.set 3 0x01).set 4 0x00) = some .unknownDeviceError := by decide

/-- D-9: sign corners. -/
theorem test_decode_signs :
    rawsOf Config.default [0xAA, 0x55, 0x10, 0x00, 0x01, 0x00, 0x80, 0xFF, 0x7F, 0xFF, 0xFF, 0x01, 0x00, 0x00, 0x00, 0x00, 0x00,
        0x00, 0x00, 0x00, 0x00, 0xFF, 0x0C] =
      some [(-32768, 10), (32767, 10), (-1, 10), (1, 10), (0, 10), (0, 10), (0, 10), (0, 10), (255, 1)] := by decide

/-- D-10 to D-13. -/
theorem test_decode_malformed :
    errorOf (withEntry 0x8914000000100100 defaultEntry.descs) frameF1 = some .malformedPayloadError ∧
    errorOf (withEntry 0x8911000000100100 (defaultEntry.descs.set 8 0x00018B10)) frameF1 = some .malformedPayloadError ∧
    errorOf (withEntry 0x8911000000100100 (defaultEntry.descs.set 8 0x00008810)) frameF1 = some .malformedPayloadError ∧
    errorOf (withEntry 0x8911000000100100 (defaultEntry.descs.set 8 0x00018910)) frameF1 = some .malformedPayloadError := by
  decide

/-- D-14, D-17: no fields; 4-byte fields up to the payload's end. -/
theorem test_decode_fields :
    rawsOf (withEntry 0x8011000000100100 defaultEntry.descs) frameF1 = some [] ∧
    rawsOf (withEntry 0x8211000000100100 ((defaultEntry.descs.set 0 0x00010600).set 1 0x0001120D)) frameF1 =
      some [(14746100, 1), (1677765248, 1)] := by decide

/-- D-15, D-16: the lower index wins; VALID = 0 takes no part. -/
theorem test_lookup_order :
    rawsOf { Config.default with
      table := { defaultEntry with hdr := 0x8111000000100100 } :: defaultEntry :: List.replicate 6 unusedEntry } frameF1 =
      some [(500, 10)] ∧
    (rawsOf { Config.default with
      table := { defaultEntry with hdr := 0x0111000000100100 } :: defaultEntry :: List.replicate 6 unusedEntry } frameF1).map
      List.length = some 9 := by decide

/-- Q-1, Q-2: room, and drop-oldest when full. -/
theorem test_dispatch :
    (dispatch (oneSet 5) (withQueues [oneSet 1, oneSet 2, oneSet 3] [oneSet 1, oneSet 2, oneSet 3, oneSet 4] State.reset)).sinks.map
        (fun k => (k.q.map ReadingSet.ts, k.enq, k.drop)) =
      [([1, 2, 3, 5], 1, 0), ([2, 3, 4, 5], 1, 1)] := by decide

/-- R78: stuffing V-F1, and building it from its fields (R89). -/
theorem test_wire :
    wireOf Config.default frameF1 = wireF1 ∧
    buildFrame Config.default 0x10 0x0100 (stdPayload [500, 225, -50, 0, 900, 32767, -32768, 170] 100) = frameF1 := by decide

/-- R97, by hand: RAW FFFFFFCE, DIV 000A, SGN at bit 5, KIND at bit 4, CHAN 2. -/
theorem test_pack :
    packReading ⟨0xFFFFFFCE, 10, true, .temperature, 2⟩ = 0xFFFFFFCE000A0022 ∧
    packReading ⟨100, 1, false, .pumpSpeed, 8⟩ = 0x0000006400010018 ∧
    packHeader (oneSet 1) = 0x0000000001010010 := by decide

/-- A counter wraps (R26, U15). -/
theorem test_counter_wraps :
    stepTo (offering 0x1000 { State.reset with ctrBytes := 4294967295 }) (fun t => t.ctrBytes == 0) = true := by decide

/-! Witnesses: states and operands that meet the hypotheses of each obligation that has some, each clause at an edge of its range. -/

/-- An admitted configuration at the upper edges: 16 sinks, FRAME_LEN 255, FIFOs of depth 1. -/
def widest : Config := { Config.default with nSinks := 16, payloadLen := 249, qDepth := 1 }

/-- The offers of V-F1's wire bytes. -/
def offersF1 : List Offer := lineOffers Config.default (.bytes wireF1 7)

/-- One byte before a completion, with Q[0] full and Q[1] empty. -/
def fullSink : State := withQueues [oneSet 1, oneSet 2, oneSet 3, oneSet 4] [] (inSync .accum 22)

theorem witness_DecodeEncodeAgree :
    (Config.default.wf = true ∧ (Instr.accEscBad 0xFF).wf Config.default = true ∧ (Instr.accEscBad 0xFF).offeredIn .accEsc = true) ∧
    widest.wf = true ∧ (Instr.popErr 15).wf widest = true ∧ (Instr.popErr 15).offeredIn .seekS1 = true := by decide

theorem witness_EncodeDecodeAgree : decode widest .accum 0x2F01 = .ok (.popErr 15) := rfl

theorem witness_ReservedWordsAreRefused :
    (offering 0x1100 State.reset).cfg.wf = true ∧ (offering 0x1100 State.reset).pending = [⟨0x1100, 7⟩] ∧
    decode Config.default .seekIdle 0x1100 = .error .byteArg := ⟨by decide, rfl, rfl⟩

theorem witness_EventWordsParse : (15 : BitVec 4).toNat < widest.nSinks := by decide

theorem witness_ByteClassesPerState :
    Config.default.wf = true ∧ (0xFF : Byte) ≠ Config.default.escLit ∧ (0xFF : Byte) ≠ Config.default.sync1 ∧
    (0xFF : Byte) ≠ Config.default.sync0 := by decide

theorem witness_StepRunsDecodedInstruction :
    (offering 0x1055 (inSync .accEsc 9)).cfg.wf = true ∧ (offering 0x1055 (inSync .accEsc 9)).pending = [⟨0x1055, 7⟩] ∧
    decode Config.default .accEsc 0x1055 = .ok .accEscSync1 ∧ State.reset.cfg.wf = true ∧ State.reset.pending = [] :=
  ⟨by decide, rfl, rfl, by decide, rfl⟩

/-- One broken condition each: SYNC0 = SYNC1, QDEPTH = 256, N_SINKS = 0, FRAME_LEN = 256, a reserved header bit. -/
theorem witness_OnlyAdmittedConfigurationsRun :
    ¬ ({ Config.default with sync1 := 0xAA }.sync0 ≠ { Config.default with sync1 := 0xAA }.sync1) ∧
    ¬ ({ Config.default with qDepth := 256 }.qDepth ≤ 255) ∧ ¬ (1 ≤ { Config.default with nSinks := 0 }.nSinks) ∧
    ¬ ({ Config.default with payloadLen := 250 }.frameLen ≤ 255) ∧
    ¬ (∀ e ∈ (withEntry 0xC911000000100100 []).table, e.hdr.extractLsb' 60 3 = 0) := by decide

theorem witness_ByteCommonPart :
    (offering 0x10FF State.reset).cfg.wf = true ∧
    (offering 0x10FF State.reset).pending = ⟨0x1000 ||| (0xFF : Byte).setWidth 16, 7⟩ :: [] ∧
    (offering 0x10FF State.reset).mode = .run ∧ (inMode .halted (offering 0x10FF State.reset)).mode ≠ .run := by decide

theorem witness_SeekIdleResults :
    State.reset.mode = .run ∧ State.reset.syncSt = .seekIdle ∧ (0x55 : Byte) ≠ State.reset.cfg.sync0 := by decide

theorem witness_SeekS1Results :
    (inSync .seekS1 0).mode = .run ∧ (inSync .seekS1 0).syncSt = .seekS1 ∧ (0x00 : Byte) ≠ (inSync .seekS1 0).cfg.sync0 ∧
    (0x00 : Byte) ≠ (inSync .seekS1 0).cfg.sync1 := by decide

theorem witness_SentinelStartsFrame :
    (inSync .seekS1 0).mode = .run ∧ (inSync .seekS1 0).syncSt = .seekS1 ∧ ¬ inFrame (inSync .seekS1 0) ∧
    ∃ t, exec .seekS1Sync1 (inSync .seekS1 0) = .next t ∧ inFrame t := ⟨rfl, rfl, by decide, _, rfl, by decide⟩

theorem witness_EscapeLeadIsHeld : (inSync .accum 22).mode = .run ∧ (inSync .accum 22).syncSt = .accum := by decide

/-- CNT 21 stores, CNT 22 completes; the literal 55 and the escaped AA. -/
theorem witness_LogicalByteIsStored :
    (inSync .accum 21).mode = .run ∧ (inSync .accum 21).syncSt = .accum ∧ (0x55 : Byte) ≠ (inSync .accum 21).cfg.sync0 ∧
    ((inSync .accum 21).cnt + 1).toNat ≠ (inSync .accum 21).cfg.frameLen ∧
    ((inSync .accum 22).cnt + 1).toNat = (inSync .accum 22).cfg.frameLen ∧
    (inSync .accEsc 22).mode = .run ∧ (inSync .accEsc 22).syncSt = .accEsc ∧ (0xAA : Byte) = (inSync .accEsc 22).cfg.sync0 := by
  decide

theorem witness_EmbeddedSentinelTruncates : (inSync .accEsc 2).mode = .run ∧ (inSync .accEsc 2).syncSt = .accEsc := by decide

theorem witness_BadEscapeResults :
    (inSync .accEsc 22).mode = .run ∧ (inSync .accEsc 22).syncSt = .accEsc ∧ (0x01 : Byte) ≠ (inSync .accEsc 22).cfg.escLit ∧
    (0x01 : Byte) ≠ (inSync .accEsc 22).cfg.sync1 ∧ (0x01 : Byte) ≠ (inSync .accEsc 22).cfg.sync0 := by decide

theorem witness_ByteFormStops :
    Instr.accEscSync1.isByte = true ∧ (inMode .closing State.reset).mode ≠ .run ∧ State.reset.mode = .run ∧
    Instr.accEscSync1.offeredIn State.reset.syncSt = false ∧ (Instr.seekIdleNoise 0xAA).isByte = true ∧
    (Instr.seekIdleNoise 0xAA).offeredIn State.reset.syncSt = true ∧ (Instr.seekIdleNoise 0xAA).wf State.reset.cfg = false := by
  decide

/-- The frame D-5: V-F1 from device 0x11, with its checksum. -/
def frameD5 : List Byte := (frameF1.set 2 0x11).set 22 0x47

/-- TABLE of D-10: entry 0 expects 20 payload bytes. -/
def malformed : Config := withEntry 0x8914000000100100 defaultEntry.descs

/-- An admitted configuration with other key sizes: SRC_LEN = 2, CMD_LEN = 1, and a device that sends CMD 0x10 of SRC 0x0010. -/
def otherSizes : Config :=
  { Config.default with
    srcLen := 2, cmdLen := 1, payloadLen := 1,
    table := { defaultEntry with hdr := 0x8001000000100010 } :: List.replicate 7 unusedEntry }

theorem witness_CompletionPhases :
    Config.default.wf = true ∧ frameF1.length = Config.default.frameLen ∧ Config.default.srcLen = 1 ∧ Config.default.cmdLen = 2 ∧
    checksumOk Config.default (frameF1.set 22 0x47) = false ∧
    checksumOk Config.default frameD5 = true ∧ (bufByte frameD5 2).toNat = 0x11 ∧
    (bufByte frameD5 3).toNat + 256 * (bufByte frameD5 4).toNat = 0x100 ∧ lookupEntry Config.default 0x11 0x100 = none := by decide

theorem witness_CompletionPhases_malformed :
    malformed.wf = true ∧ frameF1.length = malformed.frameLen ∧ malformed.srcLen = 1 ∧ malformed.cmdLen = 2 ∧
    checksumOk malformed frameF1 = true ∧ lookupEntry malformed 0x10 0x100 = some ⟨0x8914000000100100, defaultEntry.descs⟩ ∧
    payloadOk malformed ⟨0x8914000000100100, defaultEntry.descs⟩ = false := by decide

theorem witness_CompletionPhases_success :
    checksumOk Config.default frameF1 = true ∧ (bufByte frameF1 2).toNat = 0x10 ∧
    (bufByte frameF1 3).toNat + 256 * (bufByte frameF1 4).toNat = 0x100 ∧
    lookupEntry Config.default 0x10 0x100 = some defaultEntry ∧ payloadOk Config.default defaultEntry = true := by decide

theorem witness_SetKeysAreExact :
    (∃ rs, decodeCandidate Config.default frameF1 7 = .ok rs) ∧ Config.default.wf = true ∧
    8 < (hdrNf defaultEntry.hdr).toNat ∧ defaultEntry.descs[8]? = some 0x00018810 := ⟨⟨_, rfl⟩, by decide, by decide, rfl⟩

/-- A candidate of the other sizes: AA 55, SRC 10 00, CMD 10, one payload byte, and the checksum 0x1F of their sum 0x11F. -/
theorem witness_SetKeysAreExact_other_sizes :
    otherSizes.wf = true ∧ ∃ rs, decodeCandidate otherSizes [0xAA, 0x55, 0x10, 0x00, 0x10, 0x00, 0x1F] 7 = .ok rs :=
  ⟨by decide, _, rfl⟩

/-- A signed 4-byte field and an unsigned 1-byte one. -/
theorem witness_RawKeepsTheFieldsValue :
    (descWc 0x00010600 ≠ 3 ∧ descSgn 0x00010600 = true) ∧ descWc 0x00018810 ≠ 3 ∧ descSgn 0x00018810 = false := by decide

/-- The pump byte, the last of the payload. -/
theorem witness_FieldBitsAreLittleEndian :
    (descOff 0x00018810).toNat + descWidth 0x00018810 = (payload Config.default frameF1).length := by decide

theorem witness_ReadingValueIsExact : (⟨0xFFFF8000, 1, true, .temperature, 0⟩ : Reading).div ≠ 0 := by decide

theorem witness_PopOkResult :
    State.reset.cfg.nSinks ≤ (2 : BitVec 4).toNat ∧ (1 : BitVec 4).toNat < State.reset.cfg.nSinks ∧
    State.reset.queue (1 : BitVec 4).toNat = [] ∧ fullSink.sinks[(0 : BitVec 4).toNat]? =
      some (sinkOf [oneSet 1, oneSet 2, oneSet 3, oneSet 4]) ∧ (0 : BitVec 4).toNat < fullSink.cfg.nSinks := by decide

theorem witness_PopErrResult :
    (withQueues [] [oneSet 1] State.reset).sinks[(1 : BitVec 4).toNat]? = some (sinkOf [oneSet 1]) ∧
    (sinkOf [oneSet 1]).q = oneSet 1 :: [] ∧ (1 : BitVec 4).toNat < State.reset.cfg.nSinks := by decide

theorem witness_LastPopHalts :
    (∃ t, exec (.popOk 0) (inMode .closing (withQueues [oneSet 1] [] State.reset)) = .next t ∧ ∀ snk ∈ t.sinks, snk.q = []) ∧
    (∃ t, exec (.popErr 1) (inMode .closing (withQueues [oneSet 1] [oneSet 2] State.reset)) = .next t ∧
      ∃ snk ∈ t.sinks, snk.q ≠ []) ∧
    ∃ t, exec (.popOk 0) fullSink = .next t ∧ fullSink.mode ≠ .closing :=
  ⟨⟨_, rfl, by decide⟩, ⟨_, rfl, by decide⟩, _, rfl, by decide⟩

theorem witness_PopFrame :
    (∃ t, exec (.popErr 0) fullSink = .next t) ∧
    fullSink.sinks[(0 : BitVec 4).toNat]? = some (sinkOf [oneSet 1, oneSet 2, oneSet 3, oneSet 4]) := ⟨⟨_, rfl⟩, rfl⟩

theorem witness_StoringFormFrame :
    (∃ t, exec (.accumLiteral 0x55) (inSync .accum 2) = .next t) ∧ (∃ t, exec (.accumLiteral 0x46) fullSink = .next t) ∧
    ∃ t, exec .accEscEscLit (inSync .accEsc 21) = .next t := ⟨⟨_, rfl⟩, ⟨_, rfl⟩, _, rfl⟩

theorem witness_NonStoringFormFrame :
    Instr.accEscSync0.isByte = true ∧ storedByte Config.default .accEscSync0 = none ∧
    ∃ t, exec .accEscSync0 (inSync .accEsc 9) = .next t := ⟨rfl, rfl, _, rfl⟩

theorem witness_TransportErrorResult :
    State.reset.mode = .run ∧ (inMode .halted State.reset).mode ≠ .run ∧ (inMode .fatal fullSink).mode = .fatal ∧
    ∃ t, exec (.popOk 0) (inMode .fatal fullSink) = .next t := ⟨rfl, by decide, rfl, _, rfl⟩

theorem witness_ShutdownResult :
    (State.reset.mode = .run ∧ ∀ snk ∈ State.reset.sinks, snk.q = []) ∧
    (fullSink.mode = .run ∧ ∃ snk ∈ fullSink.sinks, snk.q ≠ []) ∧ (inMode .closing State.reset).mode ≠ .run := by decide

theorem witness_ResetResult :
    (∃ t, exec .reset (inMode .halted State.reset) = .next t ∧ t.mode ≠ (inMode .halted State.reset).mode) ∧
    ∃ t, exec .reset (State.powerOn widest) = .next t := ⟨⟨_, rfl, by decide⟩, _, rfl⟩

theorem witness_InputsStay :
    (∃ t, exec .reset fullSink = .next t) ∧ ∃ t, exec (.popOk 0) fullSink = .next t ∧ Instr.popOk 0 ≠ .reset :=
  ⟨⟨_, rfl⟩, _, rfl, by decide⟩

theorem witness_StepKeepsInv :
    Inv (offering 0x1046 fullSink) ∧ ∃ t, step (offering 0x1046 fullSink) = .next t := ⟨by decide, exists_next (by decide)⟩

theorem witness_PowerOnMeetsInvariants : widest.wf = true := by decide

theorem witness_StepKeepsAccounting :
    Accounting (offering 0x1046 (inSync .accum 22)) ∧ ∃ t, step (offering 0x1046 (inSync .accum 22)) = .next t :=
  ⟨by decide, exists_next (by decide)⟩

theorem witness_StepKeepsQuiet :
    Quiet (offering 0x2000 (inMode .closing (withQueues [oneSet 1] [] State.reset))) ∧
    ∃ t, step (offering 0x2000 (inMode .closing (withQueues [oneSet 1] [] State.reset))) = .next t :=
  ⟨by decide, exists_next (by decide)⟩

theorem witness_ConfigurationIsConstant : ∃ t, exec .reset State.reset = .next t := ⟨_, rfl⟩

theorem witness_SynchronizerNeverStalls :
    (offering 0x10FF (inSync .accEsc 22)).cfg.wf = true ∧ (offering 0x10FF (inSync .accEsc 22)).mode = .run ∧
    (offering 0x10FF (inSync .accEsc 22)).pending = ⟨0x1000 ||| (0xFF : Byte).setWidth 16, 7⟩ :: [] := by decide

theorem witness_AtMostOneErrorPerStep :
    Instr.accEscSync1 ≠ .reset ∧ (∃ t, exec .accEscSync1 (inSync .accEsc 9) = .next t ∧
      t.ctrTrunc ≠ (inSync .accEsc 9).ctrTrunc) ∧
    ∃ t, exec (.popErr 0) fullSink = .next t ∧
      t.sinks[0]?.map Sink.sinkErr ≠ fullSink.sinks[0]?.map Sink.sinkErr := ⟨by decide, ⟨_, rfl, by decide⟩, _, rfl, by decide⟩

theorem witness_FailedSpansReachNoSink :
    Instr.accumLiteral 0x47 ≠ .reset ∧ ∃ t, exec (.accumLiteral 0x47) fullSink = .next t ∧ t.ctrCkErr ≠ fullSink.ctrCkErr :=
  ⟨by decide, _, rfl, by decide⟩

theorem witness_EndedRunTakesOnlyReset :
    Quiet (inMode .halted State.reset) ∧ (inMode .halted State.reset).mode = .halted ∧ Quiet (inMode .fatal State.reset) ∧
    (∀ snk ∈ (inMode .fatal State.reset).sinks, snk.q = []) ∧ ∃ t, exec .reset (inMode .fatal State.reset) = .next t :=
  ⟨by decide, rfl, by decide, by decide, _, rfl⟩

theorem witness_LockOn :
    let s := { inSync .accEsc 9 with pending := offersF1 }
    Inv s ∧ s.mode = .run ∧ IsFrame s.cfg frameF1 ∧
    offersF1.map Offer.word = (wireOf s.cfg frameF1).map (fun b => encodeEvent (.byte b)) ∧ s.pending = offersF1 ++ [] := by decide

/-- A frame that decodes and one that does not. -/
theorem witness_FramesAreDeliveredEndToEnd :
    let s := { inSync .accEsc 9 with pending := offersF1 }
    Inv s ∧ s.mode = .run ∧ IsFrame s.cfg frameF1 ∧ IsFrame s.cfg (frameF1.set 22 0x47) ∧
    (offersF1.dropLast ++ [(⟨0x1046, 7⟩ : Offer)]).map Offer.word = (wireOf s.cfg frameF1).map (fun b => encodeEvent (.byte b)) ∧
    s.pending = offersF1.dropLast ++ (⟨0x1046, 7⟩ : Offer) :: [] := by decide

/-- L1-1 (a): the noise ends in SYNC0. -/
theorem witness_OneCandidateInSentinelFreeNoise :
    let s := { State.reset with
      pending := lineOffers Config.default (.noise ([0x00, 0x55, 0xAA, 0x00, 0x13, 0xAA] ++ wireF1 ++ [0x13, 0x55, 0x00]) 7) }
    Inv s ∧ s.mode = .run ∧ s.syncSt = .seekIdle ∧ IsFrame s.cfg frameF1 ∧
    s.pending.map Offer.word =
      ([0x00, 0x55, 0xAA, 0x00, 0x13, 0xAA] ++ wireOf s.cfg frameF1 ++ [0x13, 0x55, 0x00]).map (fun b => encodeEvent (.byte b)) := by
  decide

theorem witness_OneCandidateInSentinelFreeNoise_noise (j : Nat) :
    ¬ (([0x00, 0x55, 0xAA, 0x00, 0x13, 0xAA] : List Byte)[j]? = some 0xAA ∧
      ([0x00, 0x55, 0xAA, 0x00, 0x13, 0xAA] : List Byte)[j + 1]? = some 0x55) := by
  rcases j with _ | _ | _ | _ | _ | j <;> simp

theorem witness_WireLength : IsFrame Config.default frameF1 := by decide

theorem witness_SentinelIsUniqueOnTheWire :
    Config.default.wf = true ∧ IsFrame Config.default frameF1 ∧ (wireOf Config.default frameF1)[0]? = some Config.default.sync0 ∧
    (wireOf Config.default frameF1)[0 + 1]? = some Config.default.sync1 := by decide

theorem witness_DecodingIsIdempotent : ∃ rs, decodeCandidate Config.default frameF1 1 = .ok rs := ⟨_, rfl⟩

/-- The checksum byte itself, at FRAME_LEN - 1. -/
theorem witness_SingleByteCorruptionIsDetected :
    frameF1.length = Config.default.frameLen ∧ checksumOk Config.default frameF1 = true ∧ 22 < Config.default.frameLen ∧
    (0x47 : Byte) ≠ bufByte frameF1 22 := by decide

theorem witness_SinksDoNotDisturbBytes :
    (Instr.accumLiteral 0x46).isByte = true ∧ AgreeButSink 0 fullSink (inSync .accum 22) ∧
    ∃ t, exec (.accumLiteral 0x46) fullSink = .next t := by
  refine ⟨rfl, ⟨rfl, fun j hj => ?_⟩, _, rfl⟩
  rcases j with _ | _ | j
  · exact absurd rfl hj
  · rfl
  · rfl

/-- Two steps: a completion, then a POP of the set. -/
theorem witness_SinksReceiveInOrder :
    (runTrace 0 2 { inSync .accum 22 with pending := [⟨0x1046, 7⟩, ⟨0x2000, 0⟩] }).map (fun tr =>
      (tr.taken.map ReadingSet.ts, tr.lost, tr.produced.map ReadingSet.ts)) = some ([7], [], [7]) := by decide

theorem witness_LossFreeSinksReceiveEverything :
    Inv { inSync .accum 22 with pending := [⟨0x1046, 7⟩, ⟨0x2000, 0⟩] } ∧ 0 < State.reset.cfg.nSinks ∧
    (runTrace 0 2 { inSync .accum 22 with pending := [⟨0x1046, 7⟩, ⟨0x2000, 0⟩] }).map Trace.lost = some [] := by decide

theorem witness_EnqueueAndPopInEitherOrder :
    fullSink.cfg.wf = true ∧ fullSink.mode = .run ∧
    fullSink.sinks[(0 : BitVec 4).toNat]? = some (sinkOf [oneSet 1, oneSet 2, oneSet 3, oneSet 4]) ∧
    (sinkOf [oneSet 1, oneSet 2, oneSet 3, oneSet 4]).q.length = fullSink.cfg.qDepth ∧
    fullSink.syncSt = .accum ∧ (0x46 : Byte) ≠ fullSink.cfg.sync0 ∧ (fullSink.cnt + 1).toNat = fullSink.cfg.frameLen ∧
    ∃ rs, decodeCandidate fullSink.cfg (fullSink.buf.set fullSink.cnt.toNat 0x46) (fullSink.tsIn % 2 ^ fullSink.cfg.tsW) = .ok rs :=
  ⟨by decide, rfl, rfl, rfl, rfl, by decide, by decide, _, rfl⟩

theorem witness_QDataFaultsWhenEmpty :
    Inv fullSink ∧ qValid State.reset (1 : BitVec 4).toNat = false ∧ (1 : BitVec 4).toNat < State.reset.cfg.nSinks ∧
    fullSink.queue (0 : BitVec 4).toNat = oneSet 1 :: [oneSet 2, oneSet 3, oneSet 4] := by decide

theorem witness_PackedWords : (oneSet 18446744073709551615).readings.length ≤ 15 ∧ (oneSet 18446744073709551615).ts < 2 ^ 64 := by
  decide

end Sys2Proof.Tests
end

section
/-! The refusal of a configuration that breaks R6: what admission says of each entry, and what a step does without it. -/
namespace Sys2Proof

/-- The encoding check of an entry as raw bit fields of its header and its descriptor count (R95). -/
theorem Entry.wf_iff {c : Config} {e : Entry} :
    Entry.wf c e = true ↔
      e.hdr.extractLsb' 60 3 = 0 ∧ e.hdr.extractLsb' 24 24 = 0 ∧ e.descs.length = c.maxFields ∧
      (hdrNf e.hdr).toNat ≤ c.maxFields := by
  simp [Entry.wf, hdrReservedZero, and_assoc]

/-- Every entry of an admitted configuration has the encoding of R95. -/
theorem Config.entry_wf {c : Config} {e : Entry} (h : c.wf = true) (he : e ∈ c.table) : Entry.wf c e = true := by
  obtain ⟨-, -, -, -, -, -, -, -, -, -, ht⟩ := Config.wf_iff.mp h
  exact List.all_eq_true.mp ht e he

/-- Admission gives every condition R6 states, TABLE encoding included. -/
theorem Config.r6_of_wf {c : Config} (h : c.wf = true) :
    c.sync0 ≠ c.sync1 ∧ c.sync0 ≠ c.escLit ∧ c.sync1 ≠ c.escLit ∧
      1 ≤ c.qDepth ∧ c.qDepth ≤ 255 ∧ 1 ≤ c.nSinks ∧ c.nSinks ≤ 16 ∧ c.frameLen ≤ 255 ∧
      ∀ e ∈ c.table,
        e.hdr.extractLsb' 60 3 = 0 ∧ e.hdr.extractLsb' 24 24 = 0 ∧ e.descs.length = c.maxFields := by
  obtain ⟨h01, h0e, h1e, ⟨hq1, hq2⟩, ⟨hn1, hn2⟩, hf, -⟩ := Config.wf_iff.mp h
  refine ⟨h01, h0e, h1e, hq1, hq2, hn1, hn2, hf, fun e he => ?_⟩
  obtain ⟨hhi, hmid, hlen, -⟩ := Entry.wf_iff.mp (Config.entry_wf h he)
  exact ⟨hhi, hmid, hlen⟩

namespace Machine

/-- Without an admitted configuration nothing is fetched: the offers are not looked at. -/
theorem fetch_of_not_wf {s : State} (h : s.cfg.wf ≠ true) : fetch s = .refused .illFormedConfig :=
  if_neg h

/-- Without an admitted configuration the step is refused. -/
theorem step_of_not_wf {s : State} (h : s.cfg.wf ≠ true) : step s = .refused .illFormedConfig := by
  rw [step, fetch_of_not_wf h, execFetched]

/-- Settles O8: admission implies every condition of R6, so a broken condition means no admission, and then the step
is refused whatever is offered. -/
theorem onlyAdmittedConfigurationsRun : Obligations.OnlyAdmittedConfigurationsRun := by
  unfold Obligations.OnlyAdmittedConfigurationsRun
  intro s hbroken
  exact step_of_not_wf fun hwf => hbroken (Config.r6_of_wf hwf)

end Machine
end Sys2Proof
end

section
/-! The configuration stands through every event (10_state.md R31): each kind of effect of `exec_eq_next` keeps it. -/
namespace Sys2Proof.Machine

@[simp] theorem dropHead_cfg (k : Nat) (s : State) : (dropHead k s).cfg = s.cfg := rfl
@[simp] theorem countDelivered_cfg (k : Nat) (s : State) : (countDelivered k s).cfg = s.cfg := rfl
@[simp] theorem resetState_cfg (s : State) : (resetState s).cfg = s.cfg := rfl

/-- The effect of a BYTE form never writes the configuration, a completion included. -/
@[simp] theorem byteEffect_cfg (c : Config) (i : Instr) (s : State) : (byteEffect c i s).cfg = s.cfg := by
  cases i <;> simp [byteEffect]

/-- Settles O42: each effect of `exec_eq_next` is a composition of shared operations that leave the configuration; RESET
rebuilds the power-on state of that same configuration (R182). -/
theorem configurationIsConstant : Obligations.ConfigurationIsConstant := by
  unfold Obligations.ConfigurationIsConstant
  intro s t i h
  obtain ⟨-, -, -, -, rfl⟩ | ⟨k, -, -, -, rfl⟩ | ⟨k, -, -, -, rfl⟩ | ⟨-, -, rfl⟩ | ⟨-, -, rfl⟩ | ⟨-, rfl⟩ := exec_eq_next h
  · simp only [byteEffect_cfg, countByte_cfg]
  · simp only [drainCheck_cfg, countDelivered_cfg, dropHead_cfg]
  · simp only [drainCheck_cfg, raiseErr_cfg, dropHead_cfg]
  · simp only [raiseErr_cfg, setSync_cfg, discard_cfg]
  · simp only [closeMode_cfg, setSync_cfg, discard_cfg]
  · exact resetState_cfg s

end Sys2Proof.Machine
end

section
/-! The outputs of R32 by the FIFO they show, and POP on an empty FIFO (R161, R239). -/
namespace Sys2Proof.Machine

/-- q_valid[k] is 0 exactly on an empty FIFO. -/
theorem qValid_eq_false_iff {s : State} {k : Nat} : qValid s k = false ↔ s.queue k = [] := by
  simp [qValid]

/-- q_valid[k] is 1 exactly when the FIFO has an entry. -/
theorem qValid_eq_true_iff {s : State} {k : Nat} : qValid s k = true ↔ 0 < (s.queue k).length := by
  simp [qValid, List.length_pos_iff]

/-- Reading q_data[k] of an empty FIFO faults. -/
theorem qData_of_queue_eq_nil {s : State} {k : Nat} (h : s.queue k = []) : qData s k = .error .qDataUndefined := by
  simp [qData, h]

/-- q_data[k] is the head of a FIFO that has one. -/
theorem qData_of_queue_eq_cons {s : State} {k : Nat} {rs : ReadingSet} {rest : List ReadingSet}
    (h : s.queue k = rs :: rest) : qData s k = .ok rs := by
  simp [qData, h]

/-- A POP of an existing sink has no step on an empty FIFO, whatever it would record. -/
theorem popSink_of_queue_eq_nil {s : State} {k : BitVec 4} (record : State → State)
    (hk : k.toNat < s.cfg.nSinks) (hq : s.queue k.toNat = []) : popSink k record s = .fault .popEmpty := by
  simp [popSink, hq, hk]

/-- Every FIFO is within QDEPTH when each sink's is; an index no sink has shows an empty one. -/
theorem queue_length_le_qDepth {s : State} (h : QueueInv s) (k : Nat) : (s.queue k).length ≤ s.cfg.qDepth := by
  by_cases hq : s.queue k = []
  · simp [hq]
  · obtain ⟨snk, hs, hsnk⟩ := exists_sink_of_queue_ne_nil hq
    rw [← hsnk]
    exact h snk (List.mem_of_getElem? hs)

/-- q_level[k] is the length of Q[k], not truncated, under the bounds of R6 and R29. -/
theorem qLevel_toNat {s : State} (hwf : s.cfg.wf = true) (hq : QueueInv s) (k : Nat) :
    (qLevel s k).toNat = (s.queue k).length := by
  have hfits : (s.queue k).length < 2 ^ 8 := by
    obtain ⟨-, -, -, -, hdepth, -⟩ := Config.r6_of_wf hwf
    have hlen := queue_length_le_qDepth hq k
    omega
  exact (BitVec.toNat_ofNat _ _).trans (Nat.mod_eq_of_lt hfits)

/-- Settles O59: the clauses on the FIFO are the laws of q_valid, q_data, POP and q_level; the block-wide outputs are
the fields of `outputs`. -/
theorem qDataFaultsWhenEmpty : Obligations.QDataFaultsWhenEmpty := by
  unfold Obligations.QDataFaultsWhenEmpty
  refine ⟨fun s k => ⟨fun hv => ?data, fun hv hk => ?pop, qValid_eq_true_iff, fun rs rest => qData_of_queue_eq_cons,
    fun hinv => ?level⟩, fun s => ?outputs⟩
  case data => exact qData_of_queue_eq_nil (qValid_eq_false_iff.mp hv)
  case pop =>
    have hq := qValid_eq_false_iff.mp hv
    exact ⟨popSink_of_queue_eq_nil _ hk hq, popSink_of_queue_eq_nil _ hk hq⟩
  case level =>
    obtain ⟨⟨hwf, -, -⟩, -, hq, -⟩ := hinv
    exact qLevel_toNat hwf hq k.toNat
  case outputs => rfl

end Sys2Proof.Machine
end

section
/-! A completion and a POP of the same sink in either order (20_memory.md R60): the sink after a POP in RUN, and the sinks
after a BYTE event that completes a frame with a ReadingSet. -/
namespace Sys2Proof.Machine

/-- Sink k after its POP.OK: the head is gone and counted as delivered (R161). -/
def takeDelivered (c : Config) (snk : Sink) : Sink := { snk with q := snk.q.tail, deliv := bump c snk.deliv }

/-- Sink k after its POP.ERR: the head is gone and counted as failed (R162). -/
def takeFailed (c : Config) (snk : Sink) : Sink := { snk with q := snk.q.tail, sinkErr := bump c snk.sinkErr }

/-- Two changes of one sink are their composition. -/
theorem modifySink_modifySink (k : Nat) (f g : Sink → Sink) (s : State) :
    modifySink k g (modifySink k f s) = modifySink k (g ∘ f) s := by
  simp [modifySink, List.modify_modify_eq]

/-- The drain check does nothing in RUN (R163). -/
theorem drainCheck_of_run {s : State} (h : s.mode = .run) : drainCheck s = s :=
  if_neg fun hclosing => by simp [h] at hclosing

/-- In RUN a POP of a sink with an entry changes that sink and nothing else, when its record does. -/
theorem popSink_of_run {s : State} {k : BitVec 4} {record : State → State} {f : Sink → Sink} (hm : s.mode = .run)
    (hk : k.toNat < s.cfg.nSinks) (hq : s.queue k.toNat ≠ [])
    (hrecord : record (dropHead k.toNat s) = modifySink k.toNat f s) :
    popSink k record s = .next (modifySink k.toNat f s) := by
  have hdrain : drainCheck (modifySink k.toNat f s) = modifySink k.toNat f s := drainCheck_of_run hm
  exact popSink_eq_next.mpr ⟨hk, hq, by rw [hrecord, hdrain]⟩

/-- What both POPs share in RUN: only sink k changes, its FIFO loses the head, and no drop is counted. -/
theorem exec_pop_of_run {s : State} {k : BitVec 4} {pop : Instr} (hpop : pop = .popOk k ∨ pop = .popErr k)
    (hm : s.mode = .run) (hk : k.toNat < s.cfg.nSinks) (hq : s.queue k.toNat ≠ []) :
    ∃ f : Sink → Sink, exec pop s = .next (modifySink k.toNat f s) ∧
      ∀ snk, (f snk).q = snk.q.tail ∧ (f snk).drop = snk.drop := by
  obtain rfl | rfl := hpop
  · exact ⟨takeDelivered s.cfg, popSink_of_run hm hk hq (modifySink_modifySink ..), fun _ => ⟨rfl, rfl⟩⟩
  · exact ⟨takeFailed s.cfg, popSink_of_run hm hk hq (modifySink_modifySink ..), fun _ => ⟨rfl, rfl⟩⟩

/-- A set offered to a full FIFO drops the oldest entry and counts the drop (R160). -/
theorem offerTo_of_full {c : Config} {snk : Sink} (rs : ReadingSet) (h : snk.q.length = c.qDepth) :
    (offerTo c rs snk).q = snk.q.tail ++ [rs] ∧ (offerTo c rs snk).drop = bump c snk.drop := by
  simp [offerTo, h]

/-- A set offered to a FIFO with room is appended, and no drop is counted (R160). -/
theorem offerTo_of_not_full {c : Config} {snk : Sink} (rs : ReadingSet) (h : snk.q.length ≠ c.qDepth) :
    (offerTo c rs snk).q = snk.q ++ [rs] ∧ (offerTo c rs snk).drop = snk.drop := by
  simp [offerTo, h]

/-- The event i stores the last byte v of a frame, and the candidate decodes to rs (R108, R109, R113, R130). -/
structure CompletesWith (s : State) (i : Instr) (v : Byte) (rs : ReadingSet) : Prop where
  mode_run : s.mode = .run
  form : s.syncSt = .accum ∧ v ≠ s.cfg.sync0 ∧ i = .accumLiteral v ∨
    s.syncSt = .accEsc ∧ v = s.cfg.sync0 ∧ i = .accEscEscLit
  last : (s.cnt + 1).toNat = s.cfg.frameLen
  decodes : decodeCandidate s.cfg (s.buf.set s.cnt.toNat v) (sampleTs s) = .ok rs

/-- A change of a sink does not bear on the completion: it reads no sink (R142). -/
theorem CompletesWith.after_modifySink {s : State} {i : Instr} {v : Byte} {rs : ReadingSet} (h : CompletesWith s i v rs)
    (k : Nat) (f : Sink → Sink) : CompletesWith (modifySink k f s) i v rs :=
  ⟨h.mode_run, h.form, h.last, h.decodes⟩

/-- A completing event stores its byte, after counting it. -/
theorem CompletesWith.exec_eq {s : State} {i : Instr} {v : Byte} {rs : ReadingSet} (h : CompletesWith s i v rs) :
    exec i s = .next (store v (countByte s)) := by
  obtain ⟨hst, hv, rfl⟩ | ⟨hst, rfl, rfl⟩ := h.form
  · exact byteForm_eq_next.mpr ⟨h.mode_run, hst, bne_iff_ne.mpr hv, rfl⟩
  · exact byteForm_eq_next.mpr ⟨h.mode_run, hst, rfl, rfl⟩

/-- A completing event offers its set to every sink. -/
theorem CompletesWith.sinks_eq {s : State} {i : Instr} {v : Byte} {rs : ReadingSet} (h : CompletesWith s i v rs) :
    (store v (countByte s)).sinks = s.sinks.map (offerTo s.cfg rs) := by
  obtain ⟨-, hstore⟩ | ⟨hne, -⟩ := store_cases v (countByte s)
  · have hemit : complete (putByte v (countByte s)) = emit rs (countCandidate (putByte v (countByte s))) :=
      congrArg (conclude · (countCandidate (putByte v (countByte s)))) h.decodes
    simp [hstore, hemit]
  · exact absurd h.last hne

/-- POP first: the FIFO has room when the set arrives, so nothing is dropped (R60). -/
theorem pop_then_complete {s : State} {k : BitVec 4} {snk : Sink} {pop i : Instr} {v : Byte} {rs : ReadingSet}
    (hpop : pop = .popOk k ∨ pop = .popErr k) (hc : CompletesWith s i v rs) (hk : k.toNat < s.cfg.nSinks)
    (hs : s.sinks[k.toNat]? = some snk) (hfull : snk.q.length = s.cfg.qDepth) (hne : snk.q ≠ []) :
    ∃ a b snk', exec pop s = .next a ∧ exec i a = .next b ∧ b.sinks[k.toNat]? = some snk' ∧
      snk'.drop = snk.drop ∧ snk'.q = snk.q.tail ++ [rs] := by
  obtain ⟨f, hexec, hf⟩ := exec_pop_of_run hpop hc.mode_run hk (by rwa [queue_of_getElem? hs])
  obtain ⟨hfq, hfdrop⟩ := hf snk
  have hroom : (f snk).q.length ≠ s.cfg.qDepth := by
    have := List.length_pos_of_ne_nil hne
    rw [hfq, List.length_tail]
    omega
  obtain ⟨hq, hdrop⟩ := offerTo_of_not_full rs hroom
  have hc' := hc.after_modifySink k.toNat f
  exact ⟨_, _, offerTo s.cfg rs (f snk), hexec, hc'.exec_eq, by simp [hc'.sinks_eq, hs], hdrop.trans hfdrop,
    by rw [hq, hfq]⟩

/-- Completion first: the full FIFO drops its oldest entry, and the POP takes the next one (R60). -/
theorem complete_then_pop {s : State} {k : BitVec 4} {snk : Sink} {pop i : Instr} {v : Byte} {rs : ReadingSet}
    (hpop : pop = .popOk k ∨ pop = .popErr k) (hc : CompletesWith s i v rs) (hk : k.toNat < s.cfg.nSinks)
    (hs : s.sinks[k.toNat]? = some snk) (hfull : snk.q.length = s.cfg.qDepth) :
    ∃ a b snk', exec i s = .next a ∧ exec pop a = .next b ∧ b.sinks[k.toNat]? = some snk' ∧
      snk'.drop = bump s.cfg snk.drop ∧ snk'.q = (snk.q.tail ++ [rs]).tail := by
  obtain ⟨hq, hdrop⟩ := offerTo_of_full rs hfull
  have hsink : (store v (countByte s)).sinks[k.toNat]? = some (offerTo s.cfg rs snk) := by simp [hc.sinks_eq, hs]
  have hne : (store v (countByte s)).queue k.toNat ≠ [] := by simp [queue_of_getElem? hsink, hq]
  obtain ⟨f, hexec, hf⟩ := exec_pop_of_run hpop (by simpa using hc.mode_run) (by simpa using hk) hne
  obtain ⟨hfq, hfdrop⟩ := hf (offerTo s.cfg rs snk)
  exact ⟨_, _, f (offerTo s.cfg rs snk), hc.exec_eq, hexec, by simp [hsink], hfdrop.trans hdrop, by rw [hfq, hq]⟩

/-- Settles O58: QDEPTH ≥ 1 (R6), so a full FIFO has an entry to POP, and the POP makes the room the completion
otherwise makes by a drop. -/
theorem enqueueAndPopInEitherOrder : Obligations.EnqueueAndPopInEitherOrder := by
  unfold Obligations.EnqueueAndPopInEitherOrder
  intro s k snk pop i v rs hpop hwf hm hs hk hfull hform hlast hdec
  have hc : CompletesWith s i v rs := ⟨hm, hform, hlast, hdec⟩
  have hne : snk.q ≠ [] := List.ne_nil_of_length_pos (hfull ▸ Config.one_le_qDepth hwf)
  simp only [List.drop_one]
  exact ⟨pop_then_complete hpop hc hk hs hfull hne, complete_then_pop hpop hc hk hs hfull⟩

end Sys2Proof.Machine
end

section
/-! The decoder's table (30_encoding.md R81 to R87): which words spell an event, what they spell, and the refusal of the rest. -/
namespace Sys2Proof

/-- Two event words agree when their KIND and the 12 bits below it do (R80). -/
theorem eventWord_eq_iff {v w : EventWord} :
    v = w ↔ evKind v = evKind w ∧ v.extractLsb' 0 12 = w.extractLsb' 0 12 := by
  have join (u : EventWord) : evKind u ++ u.extractLsb' 0 12 = u := BitVec.extractLsb'_append_extractLsb' (w := 4)
  refine ⟨fun h => h ▸ ⟨rfl, rfl⟩, fun ⟨hkind, hlow⟩ => ?_⟩
  rw [← join v, ← join w, hkind, hlow]

/-- A parse with one test succeeds exactly when the test does. -/
theorem exists_ite_eq_ok_iff {p : Prop} [Decidable p] {e : EventKind} {r : ReservedWord} :
    (∃ e', (if p then Except.ok e else Except.error r) = Except.ok e') ↔ p := by
  by_cases hp : p <;> simp [hp]

/-- A word spells an event exactly when it meets the row of R87 for its KIND. -/
theorem exists_parseEvent_eq_ok_iff {c : Config} {w : EventWord} :
    (∃ e, parseEvent c w = .ok e) ↔
      (evKind w = 1 ∧ evArg w = 0) ∨
      (evKind w = 2 ∧ w.extractLsb' 1 7 = 0 ∧ (evArg w).toNat < c.nSinks) ∨
      (evKind w = 3 ∧ w.extractLsb' 0 12 = 0) ∨
      (evKind w = 4 ∧ w.extractLsb' 0 12 = 0) ∨
      (evKind w = 5 ∧ w.extractLsb' 0 12 = 0) := by
  have kind_iff (k : BitVec 4) : evKind w = k ↔ (evKind w).toNat = k.toNat := BitVec.toNat_inj.symm
  simp only [kind_iff]
  unfold parseEvent
  split
  case h_1 hkind => simp [hkind, exists_ite_eq_ok_iff]
  case h_2 hkind =>
    by_cases hstatus : w.extractLsb' 1 7 = 0#7
    · by_cases hsink : c.nSinks ≤ (evArg w).toNat
      · simp [hkind, hstatus, hsink]
      · cases herr : w.getLsbD 0 <;> simp [hkind, hstatus, hsink, not_le.mp hsink]
    · simp [hkind, hstatus]
  case h_3 hkind => simp [hkind, exists_ite_eq_ok_iff]
  case h_4 hkind => simp [hkind, exists_ite_eq_ok_iff]
  case h_5 hkind => simp [hkind, exists_ite_eq_ok_iff]
  case h_6 h1 h2 h3 h4 h5 =>
    simp only [imp_false] at h1 h2 h3 h4 h5
    simp [h1, h2, h3, h4, h5]

/-- Classifying a byte never fails: a word decodes exactly when it spells an event, whatever SYNC_ST is (R90). -/
theorem exists_decode_eq_ok_iff {c : Config} {st : SyncState} {w : EventWord} :
    (∃ i, decode c st w = .ok i) ↔ ∃ e, parseEvent c w = .ok e := by
  unfold decode
  cases parseEvent c w <;> simp

/-- The words that decode are those of R87's table: a control word is its KIND above 12 zero bits. -/
theorem exists_decode_eq_ok_iff_table (c : Config) (st : SyncState) (w : EventWord) :
    (∃ i, decode c st w = .ok i) ↔
      (evKind w = 1 ∧ evArg w = 0) ∨
      (evKind w = 2 ∧ w.extractLsb' 1 7 = 0 ∧ (evArg w).toNat < c.nSinks) ∨
      w = 0x3000 ∨ w = 0x4000 ∨ w = 0x5000 := by
  rw [exists_decode_eq_ok_iff, exists_parseEvent_eq_ok_iff, eventWord_eq_iff (w := 0x3000),
    eventWord_eq_iff (w := 0x4000), eventWord_eq_iff (w := 0x5000)]
  rfl

/-- Settles O4: each word is `encodeEvent` of its event, and that word spells the event (Laws.EncodeParse). -/
theorem eventWordsParse : Obligations.EventWordsParse := by
  unfold Obligations.EventWordsParse
  intro c
  refine ⟨fun b => ?byte, fun k hk => ⟨?popOk, ?popErr⟩, ?xportErr, ?shutdown, ?reset⟩
  case byte => exact Laws.EncodeParse.parse_byte c b
  case popOk => exact Laws.EncodeParse.parse_popOk c k hk
  case popErr => exact Laws.EncodeParse.parse_popErr c k hk
  case xportErr => exact Laws.EncodeParse.xportErr c rfl
  case shutdown => exact Laws.EncodeParse.shutdown c rfl
  case reset => exact Laws.EncodeParse.reset c rfl

namespace Machine

/-- An offered word that does not decode is refused under an admitted configuration (R87). -/
theorem fetch_of_decode_eq_error {s : State} {o : Offer} {rest : List Offer} {r : ReservedWord} (hwf : s.cfg.wf = true)
    (hp : s.pending = o :: rest) (hd : decode s.cfg s.syncSt o.word = .error r) :
    fetch s = .refused (.reservedWord r) := by
  simp [fetch, hwf, hp, hd]

/-- Settles O3: the parser's tests are the table's rows, and a step refuses what fetch refuses. -/
theorem reservedWordsAreRefused : Obligations.ReservedWordsAreRefused := by
  unfold Obligations.ReservedWordsAreRefused
  refine ⟨exists_decode_eq_ok_iff_table, fun s o rest r hwf hp hd => ?_⟩
  rw [step, fetch_of_decode_eq_error hwf hp hd, execFetched]

end Machine
end Sys2Proof
end

section
/-! The class of a byte in each synchronizer state (30_encoding.md R90). -/
namespace Sys2Proof

/-- Settles O5: a row is the branch its test selects; in SEEK_S1 and ACC_ESC the tests above it fail because the three
framing bytes of an admitted configuration differ. -/
theorem byteClassesPerState : Obligations.ByteClassesPerState := by
  unfold Obligations.ByteClassesPerState
  intro c b hwf
  obtain ⟨h01, h0e, h1e⟩ := Config.framing_bytes_differ hwf
  refine ⟨fun h => if_pos h, fun h => if_neg h,
    fun h => if_pos h, ?seekS1Sync0, ?seekS1Noise,
    fun h => if_pos h, fun h => if_neg h,
    fun h => if_pos h, ?accEscSync1, ?accEscSync0, ?accEscBad⟩
  case seekS1Sync0 =>
    rintro rfl
    simp [classifyByte, h01]
  case seekS1Noise =>
    intro h0 h1
    simp [classifyByte, h0, h1]
  case accEscSync1 =>
    rintro rfl
    simp [classifyByte, h1e]
  case accEscSync0 =>
    rintro rfl
    simp [classifyByte, h0e, h01]
  case accEscBad =>
    intro he h1 h0
    simp [classifyByte, he, h1, h0]

end Sys2Proof
end

section
/-! The words of the q_data port (30_encoding.md R96, R97) read back field by field: the fields below a place are skipped
(`extractLsb'_append_eq_of_le`), those above it are cut off (`extractLsb'_append_eq_of_add_le`). The widths of the
concatenation stay sums (`-Nat.reduceAdd`), or the library's lemmas would not match them. -/
namespace Sys2Proof.Machine
open BitVec

/-- The place of RAW. -/
theorem packReading_raw (r : Reading) : (packReading r).extractLsb' 32 32 = r.raw := by
  simp [packReading, extractLsb'_append_eq_of_le, -Nat.reduceAdd]

/-- The place of DIV. -/
theorem packReading_div (r : Reading) : (packReading r).extractLsb' 16 16 = r.div := by
  simp [packReading, extractLsb'_append_eq_of_le, extractLsb'_append_eq_of_add_le, -Nat.reduceAdd]

/-- The reserved bits of a Reading. -/
theorem packReading_reserved (r : Reading) : (packReading r).extractLsb' 6 10 = 0 := by
  simp [packReading, extractLsb'_append_eq_of_le, extractLsb'_append_eq_of_add_le, -Nat.reduceAdd]

/-- The place of SGN. -/
theorem packReading_sgn (r : Reading) : (packReading r).getLsbD 5 = r.sgn := by
  simp [packReading, getLsbD_append, -Nat.reduceAdd, -getLsbD_eq_getElem]

/-- The place of KIND, as the bit of R97. -/
theorem packReading_kind (r : Reading) : (packReading r).getLsbD 4 = (quantityBit r.kind).getLsbD 0 := by
  simp [packReading, getLsbD_append, -Nat.reduceAdd, -getLsbD_eq_getElem]

/-- The place of CHAN. -/
theorem packReading_chan (r : Reading) : (packReading r).extractLsb' 0 4 = r.chan := by
  simp [packReading, extractLsb'_append_eq_of_add_le, -Nat.reduceAdd]

/-- KIND's bit is 1 for PumpSpeed only (R97). -/
theorem quantityBit_getLsbD_iff (q : Quantity) : (quantityBit q).getLsbD 0 = true ↔ q = .pumpSpeed := by
  cases q <;> decide

/-- The place of SRC. -/
theorem packHeader_src (rs : ReadingSet) : (packHeader rs).extractLsb' 0 8 = rs.src := by
  simp [packHeader, extractLsb'_append_eq_of_add_le, -Nat.reduceAdd]

/-- The place of CMD. -/
theorem packHeader_cmd (rs : ReadingSet) : (packHeader rs).extractLsb' 8 16 = rs.cmd := by
  simp [packHeader, extractLsb'_append_eq_of_le, extractLsb'_append_eq_of_add_le, -Nat.reduceAdd]

/-- The place of N, taken modulo its 4 bits. -/
theorem packHeader_n (rs : ReadingSet) : (packHeader rs).extractLsb' 24 4 = BitVec.ofNat 4 rs.readings.length := by
  simp [packHeader, extractLsb'_append_eq_of_le, extractLsb'_append_eq_of_add_le, -Nat.reduceAdd]

/-- The reserved bits of word 0. -/
theorem packHeader_reserved (rs : ReadingSet) : (packHeader rs).extractLsb' 28 36 = 0 := by
  simp [packHeader, extractLsb'_append_eq_of_le, -Nat.reduceAdd]

/-- Settles O60: each field stands at its place; N and TS are not truncated, since N ≤ 15 and TS < 2^64. -/
theorem packedWords : Obligations.PackedWords := by
  unfold Obligations.PackedWords
  refine ⟨fun r => ?reading, fun rs hn hts => ?set⟩
  case reading =>
    have hkind : (packReading r).getLsbD 4 = true ↔ r.kind = .pumpSpeed := by
      rw [packReading_kind, quantityBit_getLsbD_iff]
    exact ⟨packReading_raw r, packReading_div r, packReading_reserved r, packReading_sgn r, hkind, packReading_chan r⟩
  case set =>
    have hN : ((packHeader rs).extractLsb' 24 4).toNat = rs.readings.length := by
      rw [packHeader_n, toNat_ofNat, Nat.mod_eq_of_lt (Nat.lt_succ_of_le hn)]
    have hTS : (BitVec.ofNat 64 rs.ts).toNat = rs.ts := by rw [toNat_ofNat, Nat.mod_eq_of_lt hts]
    exact ⟨packHeader rs, BitVec.ofNat 64 rs.ts, rfl, hTS, packHeader_src rs, packHeader_cmd rs, hN,
      packHeader_reserved rs⟩

end Sys2Proof.Machine
end

section
/-! The eleven forms of BYTE (40_synchronizer.md R100 to R113): which form a byte selects, what a form answers in RUN and
outside it, and the form's whole next state. -/
namespace Sys2Proof

/-- The form a byte selects is a form of SYNC_ST's rows (R90). -/
@[simp] theorem classifyByte_formState (c : Config) (st : SyncState) (b : Byte) :
    (classifyByte c st b).formState = some st := by
  unfold classifyByte
  split <;> split_ifs <;> rfl

/-- The byte is of the class of the form it selects (R90). -/
theorem classifyByte_wf (c : Config) (st : SyncState) (b : Byte) : (classifyByte c st b).wf c = true := by
  unfold classifyByte
  split <;> split_ifs <;> simp_all [Instr.wf]

/-- A form with a SYNC_ST of its own is a BYTE form. -/
theorem Instr.isByte_of_formState {i : Instr} {st : SyncState} (h : i.formState = some st) : i.isByte = true := by
  simp [Instr.isByte, h]

/-- A BYTE word decodes to the form its byte selects (R81, R90). -/
theorem decode_byte (c : Config) (st : SyncState) (b : Byte) :
    decode c st (encodeEvent (.byte b)) = .ok (classifyByte c st b) := by
  rw [decode, Laws.EncodeParse.parse_byte]
  rfl

namespace Machine

/-- A step executes the form its first offer decodes to, under an admitted configuration (R12). -/
theorem step_of_decode_eq_ok {s : State} {o : Offer} {rest : List Offer} {i : Instr} (hwf : s.cfg.wf = true)
    (hp : s.pending = o :: rest) (hd : decode s.cfg s.syncSt o.word = .ok i) :
    step s = exec i (takeOffer o rest s) := by
  simp [step, fetch, hwf, hp, hd, execFetched]

/-- A BYTE form has no step outside RUN, whatever SYNC_ST and the byte are (R100). -/
theorem exec_byte_of_not_run {i : Instr} {s : State} (hb : i.isByte = true) (hm : s.mode ≠ .run) :
    exec i s = .fault .byteOutsideRun := by
  cases i with
  | popOk _ | popErr _ | xportErr | shutdown | reset => contradiction
  | _ => exact if_pos hm

/-- In RUN a form that SYNC_ST and the byte select counts the byte and takes its effect (R100). -/
theorem exec_byte_of_run {i : Instr} {s : State} (hm : s.mode = .run) (hst : i.formState = some s.syncSt)
    (hwf : i.wf s.cfg = true) : exec i s = .next (byteEffect s.cfg i (countByte s)) :=
  (exec_byte_eq_next (Instr.isByte_of_formState hst)).mpr ⟨hm, hst, hwf, rfl⟩

/-- The effect of a form counts no byte: R100's common part has done so. -/
@[simp] theorem byteEffect_ctrBytes (c : Config) (i : Instr) (s : State) :
    (byteEffect c i s).ctrBytes = s.ctrBytes := by
  cases i <;> simp [byteEffect]

/-- Settles O9: the word decodes to the form that `classifyByte` selects by R100's table; outside RUN that form has no
step, in RUN it counts the byte once and its effect counts none. -/
theorem byteCommonPart : Obligations.ByteCommonPart := by
  unfold Obligations.ByteCommonPart
  intro s b ts rest hwf hp
  have hform := classifyByte_formState s.cfg s.syncSt b
  have hstep := step_of_decode_eq_ok hwf hp (decode_byte s.cfg s.syncSt b)
  refine ⟨fun hm => ?outside, fun hm => ?run⟩
  case outside => exact hstep.trans (exec_byte_of_not_run (Instr.isByte_of_formState hform) hm)
  case run =>
    have hexec := exec_byte_of_run (s := takeOffer ⟨encodeEvent (.byte b), ts⟩ rest s) hm hform (classifyByte_wf s.cfg s.syncSt b)
    exact ⟨_, hstep.trans hexec, byteEffect_ctrBytes .., hexec.symm⟩

/-- Among the BYTE forms, only the completed sentinel leads from outside a frame into one. -/
theorem byteEffect_enters_frame {c : Config} {i : Instr} {s : State} (hform : i.formState = some s.syncSt)
    (hout : ¬ inFrame s) (hin : inFrame (byteEffect c i s)) : i = .seekS1Sync1 := by
  cases i with
  | seekS1Sync1 => rfl
  | seekIdleSync0 | seekIdleNoise _ | seekS1Sync0 | seekS1Noise _ => simp [inFrame, byteEffect] at hin
  | accumEscLead | accumLiteral _ => exact absurd (.inl (Option.some.inj hform).symm) hout
  | accEscEscLit | accEscSync1 | accEscSync0 | accEscBad _ => exact absurd (.inr (Option.some.inj hform).symm) hout
  | popOk _ | popErr _ | xportErr | shutdown | reset => contradiction

@[simp] theorem dropHead_syncSt (k : Nat) (s : State) : (dropHead k s).syncSt = s.syncSt := rfl
@[simp] theorem countDelivered_syncSt (k : Nat) (s : State) : (countDelivered k s).syncSt = s.syncSt := rfl
@[simp] theorem resetState_syncSt (s : State) : (resetState s).syncSt = .seekIdle := rfl

/-- Of all events only the completed sentinel leads into a frame: a POP keeps SYNC_ST, the control events leave SEEK_IDLE. -/
theorem eq_seekS1Sync1_of_enters_frame {s t : State} {i : Instr} (h : exec i s = .next t) (hout : ¬ inFrame s)
    (hin : inFrame t) : i = .seekS1Sync1 := by
  obtain ⟨-, -, hform, -, rfl⟩ | ⟨k, -, -, -, rfl⟩ | ⟨k, -, -, -, rfl⟩ | ⟨-, -, rfl⟩ | ⟨-, -, rfl⟩ | ⟨-, rfl⟩ := exec_eq_next h
  · exact byteEffect_enters_frame (s := countByte s) hform hout hin
  · exact absurd (by simpa [inFrame] using hin) hout
  · exact absurd (by simpa [inFrame] using hin) hout
  · simp [inFrame] at hin
  · simp [inFrame] at hin
  · simp [inFrame] at hin

/-- Settles O12: SYNC1 in SEEK_S1 takes the effect start_frame() of R101, and no other event enters a frame. -/
theorem sentinelStartsFrame : Obligations.SentinelStartsFrame := by
  unfold Obligations.SentinelStartsFrame
  exact ⟨fun s hm hst => exec_byte_of_run hm (congrArg some hst.symm) rfl,
    fun s t i => eq_seekS1Sync1_of_enters_frame⟩

/-- The two forms that carry a logical byte store it: a literal byte itself, the escaped one as SYNC0 (R108, R109). -/
theorem exec_storing_form {s : State} {i : Instr} {v : Byte} (hm : s.mode = .run)
    (hform : s.syncSt = .accum ∧ v ≠ s.cfg.sync0 ∧ i = .accumLiteral v ∨
      s.syncSt = .accEsc ∧ v = s.cfg.sync0 ∧ i = .accEscEscLit) :
    exec i s = .next (store v (countByte s)) := by
  obtain ⟨hst, hv, rfl⟩ | ⟨hst, rfl, rfl⟩ := hform
  · exact exec_byte_of_run hm (congrArg some hst.symm) (bne_iff_ne.mpr hv)
  · exact exec_byte_of_run hm (congrArg some hst.symm) rfl

/-- Settles O14: both forms are store(v), which completes the candidate exactly when CNT becomes FRAME_LEN. -/
theorem logicalByteIsStored : Obligations.LogicalByteIsStored := by
  unfold Obligations.LogicalByteIsStored
  intro s i v hm hform
  rw [exec_storing_form hm hform]
  obtain ⟨hlast, hstore⟩ | ⟨hmore, hstore⟩ := store_cases v (countByte s)
  · exact ⟨fun hne => absurd hlast hne, fun _ => congrArg _ hstore⟩
  · exact ⟨fun _ => congrArg _ hstore, fun heq => absurd heq hmore⟩

/-- Settles O10: both forms only set SYNC_ST. -/
theorem seekIdleResults : Obligations.SeekIdleResults := by
  unfold Obligations.SeekIdleResults
  intro s hm hst
  have hform := congrArg some hst.symm
  exact ⟨exec_byte_of_run hm hform rfl, fun b hb => exec_byte_of_run hm hform (bne_iff_ne.mpr hb)⟩

/-- Settles O11: both forms only set SYNC_ST. -/
theorem seekS1Results : Obligations.SeekS1Results := by
  unfold Obligations.SeekS1Results
  intro s hm hst
  have hform := congrArg some hst.symm
  exact ⟨exec_byte_of_run hm hform rfl,
    fun b h0 h1 => exec_byte_of_run hm hform (by simp [Instr.wf, h0, h1])⟩

/-- Settles O13: the form only sets SYNC_ST, and CNT selects nothing. -/
theorem escapeLeadIsHeld : Obligations.EscapeLeadIsHeld := by
  unfold Obligations.EscapeLeadIsHeld
  exact fun s hm hst => exec_byte_of_run hm (congrArg some hst.symm) rfl

/-- Settles O15: the effect is `truncate`, whose start_frame() overwrites the CNT that discard() has set. -/
theorem embeddedSentinelTruncates : Obligations.EmbeddedSentinelTruncates := by
  unfold Obligations.EmbeddedSentinelTruncates
  exact fun s hm hst => exec_byte_of_run hm (congrArg some hst.symm) rfl

/-- Settles O16: both effects are `badEscape`, with the SYNC_ST in which the search goes on. -/
theorem badEscapeResults : Obligations.BadEscapeResults := by
  unfold Obligations.BadEscapeResults
  intro s hm hst
  have hform := congrArg some hst.symm
  exact ⟨exec_byte_of_run hm hform rfl,
    fun b he h1 h0 => exec_byte_of_run hm hform (by simp [Instr.wf, he, h1, h0])⟩

end Machine
end Sys2Proof
end

section
/-! The checksum (41_decoder.md R131 to R133): what it covers, and the two algorithms by the bytes they add. -/
namespace Sys2Proof.Machine

/-- checksum_ok compares CK of all bytes but the last with the last (R131). -/
theorem checksumOk_iff {c : Config} {buf : List Byte} :
    checksumOk c buf = true ↔ checksum c (buf.take (c.frameLen - 1)) = bufByte buf (c.frameLen - 1) :=
  beq_iff_eq

/-- ADD8 adds the first byte to the sum of the rest. -/
theorem ckAdd8_cons (b : Byte) (bs : List Byte) : ckAdd8 (b :: bs) = b + ckAdd8 bs := by
  rw [ckAdd8, List.foldl_cons, BitVec.add_comm 0 b, List.foldl_assoc, ckAdd8]

/-- XOR8 adds the first byte, without carry, to the exclusive-or of the rest. -/
theorem ckXor8_cons (b : Byte) (bs : List Byte) : ckXor8 (b :: bs) = b ^^^ ckXor8 bs := by
  rw [ckXor8, List.foldl_cons, BitVec.xor_comm 0 b, List.foldl_assoc, ckXor8]

/-- ADD8 is the sum of the bytes modulo 256 (R132). -/
theorem ckAdd8_toNat (bs : List Byte) : (ckAdd8 bs).toNat = (bs.map BitVec.toNat).sum % 256 := by
  induction bs with
  | nil => rfl
  | cons b bs ih => rw [ckAdd8_cons, BitVec.toNat_add, ih, Nat.add_mod_mod, List.map_cons, List.sum_cons]

/-- Settles O20: coverage is `checksumOk_iff`, ADD8 and XOR8 are folds of an associative operation over the bytes. -/
theorem checksumAlgorithms : Obligations.ChecksumAlgorithms := by
  unfold Obligations.ChecksumAlgorithms
  exact ⟨fun c buf => checksumOk_iff, ckAdd8_toNat, rfl, ckXor8_cons, fun s => rfl⟩

end Sys2Proof.Machine
end

section
/-! The lookup (41_decoder.md R134) in the raw bit fields of a header. -/
namespace Sys2Proof.Machine

/-- An entry matches when VALID is 1 and its keys are src and cmd. -/
theorem entryMatches_iff {src cmd : Nat} {e : Entry} :
    entryMatches src cmd e = true ↔
      e.hdr.getLsbD 63 = true ∧ (e.hdr.extractLsb' 16 8).toNat = src ∧ (e.hdr.extractLsb' 0 16).toNat = cmd := by
  simp only [entryMatches, Bool.and_eq_true, beq_iff_eq, and_assoc]
  rfl

/-- The lookup's answer matches, and no entry of a lower index does. -/
theorem lookupEntry_eq_some_iff {c : Config} {src cmd : Nat} {e : Entry} :
    lookupEntry c src cmd = some e ↔
      ∃ n : Nat, c.table[n]? = some e ∧ entryMatches src cmd e = true ∧
        ∀ (m : Nat) (e' : Entry), m < n → c.table[m]? = some e' → ¬ entryMatches src cmd e' = true := by
  rw [lookupEntry, List.find?_eq_some_iff_getElem]
  constructor
  · rintro ⟨hmatch, n, hn, rfl, hlower⟩
    refine ⟨n, List.getElem?_eq_getElem hn, hmatch, fun m e' hm he' => ?_⟩
    obtain ⟨_, rfl⟩ := List.getElem?_eq_some_iff.mp he'
    simpa using hlower m hm
  · rintro ⟨n, hn, hmatch, hlower⟩
    obtain ⟨hlt, rfl⟩ := List.getElem?_eq_some_iff.mp hn
    refine ⟨hmatch, n, hlt, rfl, fun m hm => ?_⟩
    simpa using hlower m _ hm (List.getElem?_eq_getElem (hm.trans hlt))

/-- The lookup finds nothing exactly when no entry matches. -/
theorem lookupEntry_eq_none_iff {c : Config} {src cmd : Nat} :
    lookupEntry c src cmd = none ↔ ∀ e ∈ c.table, ¬ entryMatches src cmd e = true :=
  List.find?_eq_none

/-- Settles O21: the lookup is the first match of TABLE, and a match is the condition on the header's bit fields. -/
theorem lookupTakesLowestIndex : Obligations.LookupTakesLowestIndex := by
  unfold Obligations.LookupTakesLowestIndex
  refine ⟨fun s => rfl, fun c src cmd => ?_⟩
  simp only [lookupEntry_eq_some_iff, lookupEntry_eq_none_iff, entryMatches_iff, and_assoc, implies_true, and_self]

end Sys2Proof.Machine
end

section
/-! A field of the payload (41_decoder.md R135 to R138): its width, the check that it is usable, its bits, and the value
RAW keeps of it. -/
namespace Sys2Proof

/-- The descriptors an entry uses are the first NF that it has (R95). -/
theorem mem_usedDescs_iff {e : Entry} {d : BitVec 32} :
    d ∈ usedDescs e ↔ ∃ j : Nat, j < (hdrNf e.hdr).toNat ∧ e.descs[j]? = some d := by
  simp only [usedDescs, List.mem_iff_getElem?, List.getElem?_take, Option.ite_none_right_eq_some]

namespace Machine

/-- The width codes and what they stand for (R95): the code 3 is reserved. -/
theorem fieldWidth_cases : ∀ wc : BitVec 2,
    (wc = 0 ∧ fieldWidth wc = some 1) ∨ (wc = 1 ∧ fieldWidth wc = some 2) ∨
    (wc = 2 ∧ fieldWidth wc = some 4) ∨ (wc = 3 ∧ fieldWidth wc = none) := by
  decide

/-- A field whose width code is not reserved has 1, 2 or 4 bytes. -/
theorem descWidth_cases {d : BitVec 32} (h : descWc d ≠ 3) :
    descWidth d = 1 ∨ descWidth d = 2 ∨ descWidth d = 4 := by
  obtain ⟨-, hw⟩ | ⟨-, hw⟩ | ⟨-, hw⟩ | ⟨hwc, -⟩ := fieldWidth_cases (descWc d)
  · exact .inl (by simp [descWidth, hw])
  · exact .inr (.inl (by simp [descWidth, hw]))
  · exact .inr (.inr (by simp [descWidth, hw]))
  · exact absurd hwc h

/-- A descriptor is usable: a divisor other than 0, and a field of one of the three widths inside the payload (R135). -/
theorem descOk_iff {c : Config} {d : BitVec 32} :
    descOk c d = true ↔
      descDiv d ≠ 0 ∧
      (descWc d = 0 ∧ (descOff d).toNat + 1 ≤ c.payloadLen ∨
        descWc d = 1 ∧ (descOff d).toNat + 2 ≤ c.payloadLen ∨
        descWc d = 2 ∧ (descOff d).toNat + 4 ≤ c.payloadLen) := by
  have hcases := fieldWidth_cases (descWc d)
  obtain ⟨hwc, hw⟩ | ⟨hwc, hw⟩ | ⟨hwc, hw⟩ | ⟨hwc, hw⟩ := hcases <;> rw [descOk, hw, hwc] <;> simp

/-- payload_ok checks PLEN and each used descriptor (R135). -/
theorem payloadOk_iff {c : Config} {e : Entry} :
    payloadOk c e = true ↔
      (hdrPlen e.hdr).toNat = c.payloadLen ∧
      ∀ (j : Nat) (d : BitVec 32), j < (hdrNf e.hdr).toNat → e.descs[j]? = some d → descOk c d = true := by
  simp only [payloadOk, Bool.and_eq_true, beq_iff_eq, List.all_eq_true, mem_usedDescs_iff,
    forall_exists_index, and_imp]
  exact and_congr_right fun _ => forall_comm

/-- Settles O22: payload_ok asks `descOk` of each used descriptor, which is the condition on its bit fields. -/
theorem payloadCheckIsExact : Obligations.PayloadCheckIsExact := by
  unfold Obligations.PayloadCheckIsExact
  refine ⟨fun s => rfl, fun c e => ?_⟩
  simp only [payloadOk_iff, descOk_iff]
  rfl

/-- n bytes assemble to a number of 8n bits (R9). -/
theorem leNat_lt (bs : List Byte) : leNat bs < 2 ^ (8 * bs.length) := by
  induction bs with
  | nil => exact Nat.one_pos
  | cons b bs ih =>
    have hb := b.isLt
    rw [leNat, List.length_cons, Nat.mul_succ, Nat.pow_add]
    omega

/-- Bytes given by their index assemble to Σ bytes[i] · 2^(8i) (R9). -/
theorem leNat_map_range (f : Nat → Byte) (n : Nat) :
    leNat ((List.range n).map f) = ((List.range n).map fun i => (f i).toNat * 2 ^ (8 * i)).sum := by
  induction n generalizing f with
  | zero => rfl
  | succ n ih =>
    have hshift (i : Nat) : 256 * ((f (i + 1)).toNat * 2 ^ (8 * i)) = (f (i + 1)).toNat * 2 ^ (8 * (i + 1)) := by
      ring
    calc leNat ((List.range (n + 1)).map f)
        = (f 0).toNat + 256 * leNat ((List.range n).map (f ∘ Nat.succ)) := by
          rw [List.range_succ_eq_map, List.map_cons, List.map_map, leNat]
      _ = (f 0).toNat + ((List.range n).map fun i => 256 * ((f (i + 1)).toNat * 2 ^ (8 * i))).sum := by
          rw [ih, List.sum_map_mul_left]
          rfl
      _ = ((List.range (n + 1)).map fun i => (f i).toNat * 2 ^ (8 * i)).sum := by
          simp [List.range_succ_eq_map, Function.comp_def, hshift]

/-- The field bits fit the field's width, wherever the field lies. -/
theorem fieldBits_lt (p : List Byte) (d : BitVec 32) : fieldBits p d < 2 ^ (8 * descWidth d) := by
  have hlen : (slice p (descOff d).toNat (descWidth d)).length ≤ descWidth d := List.length_take_le _ _
  exact (leNat_lt _).trans_le (Nat.pow_le_pow_right (by decide) (by omega))

/-- sext_32 keeps the two's complement value of an n-bit number (R8). -/
theorem extend32_signed_toInt {n v : Nat} (hpos : 0 < n) (hn : n ≤ 32) (hv : v < 2 ^ n) :
    (extend32 n true v).toInt = if v < 2 ^ (n - 1) then (v : Int) else (v : Int) - 2 ^ n := by
  have hhalf : 2 * v < 2 ^ n ↔ v < 2 ^ (n - 1) := by
    obtain ⟨m, rfl⟩ := Nat.exists_eq_add_of_lt hpos
    simp [Nat.pow_succ]
    omega
  have hext : extend32 n true v = (BitVec.ofNat n v).signExtend 32 := rfl
  rw [hext, BitVec.toInt_signExtend_of_le hn, BitVec.toInt_eq_toNat_cond, BitVec.toNat_ofNat, Nat.mod_eq_of_lt hv]
  simp [hhalf]

/-- zext_32 keeps an n-bit number (R8). -/
theorem extend32_unsigned_toNat {n v : Nat} (hn : n ≤ 32) (hv : v < 2 ^ n) : (extend32 n false v).toNat = v := by
  have hext : extend32 n false v = (BitVec.ofNat n v).setWidth 32 := rfl
  rw [hext, BitVec.toNat_setWidth_of_le hn, BitVec.toNat_ofNat, Nat.mod_eq_of_lt hv]

/-- Settles O23: a field of 8, 16 or 32 bits fits in RAW, where the extension keeps its value. -/
theorem rawKeepsTheFieldsValue : Obligations.RawKeepsTheFieldsValue := by
  unfold Obligations.RawKeepsTheFieldsValue
  intro p d hwc
  have hbits := fieldBits_lt p d
  have hwidth : 0 < 8 * descWidth d ∧ 8 * descWidth d ≤ 32 := by
    have := descWidth_cases hwc
    omega
  obtain ⟨hpos, hle⟩ := hwidth
  refine ⟨hbits, fun hsgn => ?signed, fun hsgn => ?unsigned⟩
  case signed => rw [raw32, hsgn, extend32_signed_toInt hpos hle hbits]
  case unsigned => rw [raw32, hsgn, extend32_unsigned_toNat hle hbits]

/-- Settles O24: a field inside the payload is its bytes P[OFF + i], assembled by their index. -/
theorem fieldBitsAreLittleEndian : Obligations.FieldBitsAreLittleEndian := by
  unfold Obligations.FieldBitsAreLittleEndian
  intro p d hin
  rw [fieldBits, slice_eq_map_bufByte hin, leNat_map_range]
  rfl

/-- A Reading with a divisor is the quotient: times DIV it is int(RAW) again (R138). -/
theorem readingValue_mul_div {r : Reading} (h : r.div ≠ 0) :
    readingValue r * (r.div.toNat : Rat) = (intRaw r : Rat) := by
  have hdiv : (r.div.toNat : Rat) ≠ 0 := by
    rw [Nat.cast_ne_zero, ← BitVec.toNat_zero, Ne, BitVec.toNat_inj]
    exact h
  exact div_mul_cancel₀ _ hdiv

/-- Settles O25: the value is a quotient by DIV, and the spec's example is 500 / 10. -/
theorem readingValueIsExact : Obligations.ReadingValueIsExact := by
  unfold Obligations.ReadingValueIsExact
  refine ⟨fun r => readingValue_mul_div, fun k ch => ?_⟩
  have hraw : intRaw ⟨0x1F4, 10, true, k, ch⟩ = 500 := rfl
  have hdiv : ((10 : BitVec 16).toNat : Rat) = 10 := rfl
  rw [readingValue, hraw, hdiv]
  norm_num

end Machine
end Sys2Proof
end

section
/-! The completion (41_decoder.md R130, R140): its four outcomes in order, and the set it emits at SRC_LEN = 1
and CMD_LEN = 2. -/
namespace Sys2Proof

/-- The descriptors an entry uses, by their index: an entry of an admitted configuration has NF of them (R95). -/
theorem usedDescs_eq_map_getD {c : Config} {e : Entry} (hwf : c.wf = true) (he : e ∈ c.table) :
    usedDescs e = (List.range (hdrNf e.hdr).toNat).map fun j => e.descs.getD j 0 := by
  have hnf := Config.nf_le_descs_length hwf he
  apply List.ext_getElem
  · simpa [usedDescs] using hnf
  · intro j _ hj
    have hlt : j < e.descs.length := by
      rw [List.length_map, List.length_range] at hj
      omega
    simp [usedDescs, hlt]

namespace Machine

/-- A bad checksum is the first failure (R130). -/
theorem complete_of_checksum_bad {s : State} (hck : checksumOk s.cfg s.buf = false) :
    complete s = raiseErr .checksumError (countCandidate s) := by
  simp [complete, decodeCandidate, hck, conclude]

/-- With a good checksum, keys that no valid entry has are the next (R130). -/
theorem complete_of_lookup_none {s : State} (hck : checksumOk s.cfg s.buf = true)
    (hlook : lookupEntry s.cfg (srcOf s.cfg s.buf) (cmdOf s.cfg s.buf) = none) :
    complete s = raiseErr .unknownDeviceError (countCandidate s) := by
  simp [complete, decodeCandidate, hck, hlook, conclude]

/-- With an entry, a payload it does not fit is the last (R130). -/
theorem complete_of_payload_bad {s : State} {e : Entry} (hck : checksumOk s.cfg s.buf = true)
    (hlook : lookupEntry s.cfg (srcOf s.cfg s.buf) (cmdOf s.cfg s.buf) = some e) (hpay : payloadOk s.cfg e = false) :
    complete s = raiseErr .malformedPayloadError (countCandidate s) := by
  simp [complete, decodeCandidate, hck, hlook, hpay, conclude]

/-- A candidate that passes all three checks emits the set its entry builds (R130). -/
theorem complete_of_payload_ok {s : State} {e : Entry} (hck : checksumOk s.cfg s.buf = true)
    (hlook : lookupEntry s.cfg (srcOf s.cfg s.buf) (cmdOf s.cfg s.buf) = some e) (hpay : payloadOk s.cfg e = true) :
    complete s = emit (buildSet s.cfg e s.buf (sampleTs s)) (countCandidate s) := by
  simp [complete, decodeCandidate, hck, hlook, hpay, conclude]

/-- The source of one byte is BUF[2]. -/
theorem srcOf_of_srcLen_one {c : Config} {buf : List Byte} (hlen : buf.length = c.frameLen) (hsrc : c.srcLen = 1) :
    srcOf c buf = (bufByte buf 2).toNat := by
  have hin : c.offSrc + 1 ≤ buf.length := by
    simp only [hlen, Config.frameLen, Config.offSrc]
    omega
  rw [srcOf, hsrc, slice_eq_map_bufByte hin]
  rfl

/-- After a source of one byte, the command of two is BUF[3] + 256 · BUF[4]. -/
theorem cmdOf_of_cmdLen_two {c : Config} {buf : List Byte} (hlen : buf.length = c.frameLen) (hsrc : c.srcLen = 1)
    (hcmd : c.cmdLen = 2) : cmdOf c buf = (bufByte buf 3).toNat + 256 * (bufByte buf 4).toNat := by
  have hoff : c.offCmd = 3 := by rw [Config.offCmd, hsrc]
  have hin : 3 + 2 ≤ buf.length := by
    rw [hlen, Config.frameLen]
    omega
  rw [cmdOf, hoff, hcmd, slice_eq_map_bufByte hin]
  rfl

/-- After keys of one and two bytes, the payload is P[i] = BUF[5 + i]. -/
theorem payload_of_key_lens {c : Config} {buf : List Byte} (hlen : buf.length = c.frameLen) (hsrc : c.srcLen = 1)
    (hcmd : c.cmdLen = 2) : payload c buf = (List.range c.payloadLen).map fun i => bufByte buf (5 + i) := by
  have hoff : c.offPay = 5 := by rw [Config.offPay, Config.offCmd, hsrc, hcmd]
  have hin : 5 + c.payloadLen ≤ buf.length := by
    rw [hlen, Config.frameLen]
    omega
  rw [payload, hoff, slice_eq_map_bufByte hin]

/-- Two bytes in little-endian order are the 16-bit word with the second above the first (R9). -/
theorem ofNat_two_bytes (lo hi : Byte) : BitVec.ofNat 16 (lo.toNat + 256 * hi.toNat) = hi ++ lo := by
  have hlo := lo.isLt
  have hhi := hi.isLt
  apply BitVec.eq_of_toNat_eq
  rw [BitVec.toNat_append, ← Nat.shiftLeft_add_eq_or_of_lt hlo, Nat.shiftLeft_eq, BitVec.toNat_ofNat]
  omega

/-- Settles O18: the four outcomes are the `complete_of_` lemmas, whose keys and payload stand at R130's bytes; an
admitted entry has a descriptor for each of its NF readings. -/
theorem completionPhases : Obligations.CompletionPhases := by
  unfold Obligations.CompletionPhases
  intro s hwf hlen hsrc hcmd src cmd p
  have hsrcOf : srcOf s.cfg s.buf = src := srcOf_of_srcLen_one hlen hsrc
  have hcmdOf : cmdOf s.cfg s.buf = cmd := cmdOf_of_cmdLen_two hlen hsrc hcmd
  have hp : payload s.cfg s.buf = p := payload_of_key_lens hlen hsrc hcmd
  rw [← hsrcOf, ← hcmdOf, ← hp]
  refine ⟨complete_of_checksum_bad, complete_of_lookup_none,
    fun e hck hlook => ⟨complete_of_payload_bad hck hlook, fun hpay => ?ok⟩⟩
  case ok =>
    have hused := usedDescs_eq_map_getD hwf (List.mem_of_find?_eq_some hlook)
    have hsrcBits : BitVec.ofNat 8 (srcOf s.cfg s.buf) = bufByte s.buf 2 := by
      rw [hsrcOf, BitVec.ofNat_toNat, BitVec.setWidth_eq]
    have hcmdBits : BitVec.ofNat 16 (cmdOf s.cfg s.buf) = bufByte s.buf 4 ++ bufByte s.buf 3 := by
      rw [hcmdOf, ofNat_two_bytes]
    rw [complete_of_payload_ok hck hlook hpay, buildSet, hused, hsrcBits, hcmdBits, List.map_map]
    rfl

end Machine
end Sys2Proof
end

section
/-! The dispatcher (42_dispatcher.md): the enqueue of R160 at one sink, the three answers of a POP (R161, R162), and the mode
after it (R163). -/
namespace Sys2Proof.Machine

/-- A POP of an index that no sink has is refused, whatever it would record (R87). -/
theorem popSink_of_nSinks_le {s : State} {k : BitVec 4} (record : State → State) (hk : s.cfg.nSinks ≤ k.toNat) :
    popSink k record s = .refused (.reservedWord .popSink) :=
  if_pos hk

/-- Changing a sink that exists writes its changed value in its place. -/
theorem modifySink_eq_set {s : State} {k : Nat} {snk : Sink} (f : Sink → Sink) (hs : s.sinks[k]? = some snk) :
    modifySink k f s = { s with sinks := s.sinks.set k (f snk) } := by
  rw [modifySink, List.modify_eq_set_getElem?, hs]
  rfl

/-- A POP of a sink with an entry writes that sink's new value in its place and checks the drain, in every MODE. -/
theorem popSink_of_entry {s : State} {k : BitVec 4} {snk : Sink} {record : State → State} {f : Sink → Sink}
    (hk : k.toNat < s.cfg.nSinks) (hs : s.sinks[k.toNat]? = some snk) (hq : snk.q ≠ [])
    (hrecord : record (dropHead k.toNat s) = modifySink k.toNat f s) :
    popSink k record s = .next (drainCheck { s with sinks := s.sinks.set k.toNat (f snk) }) := by
  have hqueue : s.queue k.toNat ≠ [] := by rwa [queue_of_getElem? hs]
  exact popSink_eq_next.mpr ⟨hk, hqueue, by rw [hrecord, modifySink_eq_set f hs]⟩

/-- Settles O27: `popSink` answers by the index and the FIFO; with an entry the sink's new value is `takeDelivered`. -/
theorem popOkResult : Obligations.PopOkResult := by
  unfold Obligations.PopOkResult
  refine fun s k => ⟨popSink_of_nSinks_le _, popSink_of_queue_eq_nil _, fun snk rs rest hk hs hq => ⟨?data, ?step⟩⟩
  case data => exact qData_of_queue_eq_cons ((queue_of_getElem? hs).trans hq)
  case step =>
    have hpop : exec (.popOk k) s =
        .next (drainCheck { s with sinks := s.sinks.set k.toNat (takeDelivered s.cfg snk) }) :=
      popSink_of_entry hk hs (by simp [hq]) (modifySink_modifySink ..)
    rw [hpop, takeDelivered, hq, List.tail_cons, bump]

/-- Settles O28: as for POP.OK, with `takeFailed` as the sink's new value; SinkError writes no LAST_ERR. -/
theorem popErrResult : Obligations.PopErrResult := by
  unfold Obligations.PopErrResult
  refine fun s k => ⟨popSink_of_nSinks_le _, popSink_of_queue_eq_nil _, fun snk rs rest hk hs hq => ?step⟩
  case step =>
    have hpop : exec (.popErr k) s =
        .next (drainCheck { s with sinks := s.sinks.set k.toNat (takeFailed s.cfg snk) }) :=
      popSink_of_entry hk hs (by simp [hq]) (modifySink_modifySink ..)
    rw [hpop, takeFailed, hq, List.tail_cons, bump]

/-- MODE after the drain check. -/
theorem drainCheck_mode (s : State) :
    (drainCheck s).mode = if s.mode = .closing ∧ ∀ snk ∈ s.sinks, snk.q = [] then .halted else s.mode := by
  simp only [← allQueuesEmpty_iff]
  obtain ⟨hm, he, h⟩ | ⟨hne, h⟩ := drainCheck_cases s
  · rw [h, if_pos ⟨hm, he⟩]
  · rw [h, if_neg hne]

/-- A POP ends with the drain check, on a state still in the MODE it began in. -/
theorem exec_pop_eq_drainCheck {s t : State} {k : BitVec 4} {i : Instr} (hpop : i = .popOk k ∨ i = .popErr k)
    (h : exec i s = .next t) : ∃ u, u.mode = s.mode ∧ t = drainCheck u := by
  obtain rfl | rfl := hpop
  · obtain ⟨-, -, ht⟩ := popSink_eq_next.mp h
    exact ⟨countDelivered k.toNat (dropHead k.toNat s), rfl, ht⟩
  · obtain ⟨-, -, ht⟩ := popSink_eq_next.mp h
    exact ⟨raiseErr (.sinkError k.toNat) (dropHead k.toNat s), rfl, ht⟩

/-- Settles O29: the drain check leaves the FIFOs, so the FIFOs it tests are those after the POP. -/
theorem lastPopHalts : Obligations.LastPopHalts := by
  unfold Obligations.LastPopHalts
  intro s t k i hpop h
  obtain ⟨u, hmode, rfl⟩ := exec_pop_eq_drainCheck hpop h
  rw [drainCheck_sinks, drainCheck_mode, hmode]
  refine ⟨fun hclosing hempty => ?drained, fun hclosing ⟨snk, hmem, hne⟩ => ?waiting, fun hother => ?other⟩
  case drained => exact if_pos ⟨hclosing, hempty⟩
  case waiting =>
    rw [if_neg fun ⟨_, hempty⟩ => hne (hempty snk hmem), hclosing]
  case other => exact if_neg fun ⟨hclosing, _⟩ => hother hclosing

/-- Settles O26: dispatch maps `offerTo` over the sinks, and `offerTo` has R160's two outcomes. -/
theorem dispatchOffersToEverySink : Obligations.DispatchOffersToEverySink := by
  unfold Obligations.DispatchOffersToEverySink
  refine fun rs s => ⟨rfl, fun k => ?_⟩
  rw [dispatch_sinks, List.getElem?_map]
  congr 1
  funext snk
  obtain ⟨hfull, h⟩ | ⟨hroom, h⟩ := offerTo_cases s.cfg rs snk
  · rw [h, if_pos hfull, List.drop_one, bump, bump]
  · rw [h, if_neg hroom, bump]

end Sys2Proof.Machine
end

section
/-! The control events (43_control.md R180 to R182): what XPORT_ERR, SHUTDOWN and RESET answer, and which events have a step once
RUN is left. -/
namespace Sys2Proof.Machine

/-- Outside RUN only RESET and the POPs have a step: BYTE, XPORT_ERR and SHUTDOWN are enabled in RUN alone (R100, R180, R181). -/
theorem eq_reset_or_pop_of_not_run {i : Instr} {s t : State} (hm : s.mode ≠ .run) (h : exec i s = .next t) :
    i = .reset ∨ ∃ k, i = .popOk k ∨ i = .popErr k := by
  obtain ⟨-, hrun, -⟩ | ⟨k, hi, -⟩ | ⟨k, hi, -⟩ | ⟨-, hrun, -⟩ | ⟨-, hrun, -⟩ | ⟨hi, -⟩ := exec_eq_next h
  · exact absurd hrun hm
  · exact .inr ⟨k, .inl hi⟩
  · exact .inr ⟨k, .inr hi⟩
  · exact absurd hrun hm
  · exact absurd hrun hm
  · exact .inl hi

/-- In FATAL and in HALTED every event with a step is RESET or a POP that keeps MODE: the drain check moves CLOSING only (R163). -/
theorem eq_reset_or_pop_keeps_mode {i : Instr} {s t : State} (hm : s.mode = .fatal ∨ s.mode = .halted)
    (h : exec i s = .next t) : i = .reset ∨ (∃ k, i = .popOk k ∨ i = .popErr k) ∧ t.mode = s.mode := by
  have hrun : s.mode ≠ .run := by obtain hm | hm := hm <;> simp [hm]
  have hclosing : s.mode ≠ .closing := by obtain hm | hm := hm <;> simp [hm]
  obtain hreset | ⟨k, hpop⟩ := eq_reset_or_pop_of_not_run hrun h
  · exact .inl hreset
  · obtain ⟨-, -, hkeep⟩ := lastPopHalts s t k i hpop h
    exact .inr ⟨⟨k, hpop⟩, hkeep hclosing⟩

/-- XPORT_ERR in RUN drops the span, leaves SYNC_ST idle and raises TransportError (R180). -/
theorem exec_xportErr_of_run {s : State} (hm : s.mode = .run) :
    exec .xportErr s = .next (raiseErr .transportError (setSync .seekIdle (discard s))) :=
  if_neg (not_not.mpr hm)

/-- SHUTDOWN in RUN drops the span, leaves SYNC_ST idle and chooses the closing mode (R181). -/
theorem exec_shutdown_of_run {s : State} (hm : s.mode = .run) :
    exec .shutdown s = .next (closeMode (setSync .seekIdle (discard s))) :=
  if_neg (not_not.mpr hm)

/-- With every FIFO empty the closing mode is HALTED, and nothing else changes (R181). -/
theorem closeMode_of_empty {s : State} (h : ∀ snk ∈ s.sinks, snk.q = []) : closeMode s = { s with mode := .halted } := by
  rw [closeMode, if_pos (allQueuesEmpty_iff.mpr h)]

/-- With an entry left in some FIFO the closing mode is CLOSING, and nothing else changes (R181). -/
theorem closeMode_of_waiting {s : State} (h : ∃ snk ∈ s.sinks, snk.q ≠ []) : closeMode s = { s with mode := .closing } := by
  obtain ⟨snk, hmem, hne⟩ := h
  rw [closeMode, if_neg fun hempty => hne (allQueuesEmpty_iff.mp hempty snk hmem)]

/-- RESET draws as many bytes as BUF holds (R24, R182). -/
@[simp] theorem freeBuf_length (c : Config) (n : Nat) : (freeBuf c n).length = c.frameLen := by
  simp [freeBuf]

/-- Settles O33: discard() and SEEK_IDLE drop the span, TransportError writes code 7 and FATAL; FATAL is left as
`eq_reset_or_pop_keeps_mode` says. -/
theorem transportErrorResult : Obligations.TransportErrorResult := by
  unfold Obligations.TransportErrorResult
  refine fun s => ⟨exec_xportErr_of_run, fun hm => if_pos hm, fun i t hm h => ?sticky⟩
  case sticky =>
    rw [← hm]
    exact eq_reset_or_pop_keeps_mode (.inl hm) h

/-- Settles O34: dropping the span leaves the FIFOs, so the closing mode is chosen by the FIFOs of the state before. -/
theorem shutdownResult : Obligations.ShutdownResult := by
  unfold Obligations.ShutdownResult
  refine fun s => ⟨fun hm hempty => ?drained, fun hm hwaiting => ?waiting, fun hm => if_pos hm⟩
  case drained =>
    have hclose := closeMode_of_empty (s := setSync .seekIdle (discard s)) hempty
    exact (exec_shutdown_of_run hm).trans (congrArg _ hclose)
  case waiting =>
    have hclose := closeMode_of_waiting (s := setSync .seekIdle (discard s)) hwaiting
    exact (exec_shutdown_of_run hm).trans (congrArg _ hclose)

/-- Settles O35: RESET answers `resetState`, which is the power-on state of the configuration with new bytes in BUF; no other
event changes MODE in FATAL or HALTED. -/
theorem resetResult : Obligations.ResetResult := by
  unfold Obligations.ResetResult
  refine ⟨fun s => ⟨resetState s, rfl, ?values⟩, fun s t i hm h hleft => ?onlyWayOut, fun c t h => ?powerOn⟩
  case values =>
    exact ⟨rfl, rfl, rfl, freeBuf_length .., rfl, rfl, rfl, rfl, rfl, rfl, rfl, rfl, rfl, rfl, rfl⟩
  case onlyWayOut =>
    obtain hreset | ⟨-, hkept⟩ := eq_reset_or_pop_keeps_mode hm h
    · exact hreset
    · exact absurd hkept hleft
  case powerOn =>
    obtain rfl : resetState (State.powerOn c) = t := Host.Outcome.next.inj h
    rfl

end Sys2Proof.Machine
end

section
/-! The end of a run (70_reset_and_hazards.md R242): outside RUN a step that is no RESET takes an entry from some FIFO. -/
namespace Sys2Proof.Machine

/-- With every sink's FIFO empty, every index shows an empty FIFO, one that no sink has included. -/
theorem queue_eq_nil_of_empty {s : State} (h : ∀ snk ∈ s.sinks, snk.q = []) (k : Nat) : s.queue k = [] := by
  by_contra hne
  obtain ⟨snk, hs, hq⟩ := exists_sink_of_queue_ne_nil hne
  exact hne (hq.symm.trans (h snk (List.mem_of_getElem? hs)))

/-- A POP with a step found an entry in its FIFO (R161, R162). -/
theorem queue_ne_nil_of_exec_pop {s t : State} {k : BitVec 4} {i : Instr} (hpop : i = .popOk k ∨ i = .popErr k)
    (h : exec i s = .next t) : s.queue k.toNat ≠ [] := by
  obtain rfl | rfl := hpop
  all_goals
    obtain ⟨-, hne, -⟩ := popSink_eq_next.mp h
    exact hne

/-- Outside RUN with every FIFO empty only RESET has a step: the other events enabled there are POPs, which need an entry. -/
theorem eq_reset_of_not_run_of_empty {s t : State} {i : Instr} (hm : s.mode ≠ .run) (hempty : ∀ snk ∈ s.sinks, snk.q = [])
    (h : exec i s = .next t) : i = .reset := by
  obtain hreset | ⟨k, hpop⟩ := eq_reset_or_pop_of_not_run hm h
  · exact hreset
  · exact absurd (queue_eq_nil_of_empty hempty k.toNat) (queue_ne_nil_of_exec_pop hpop h)

/-- Settles O46: both ends of a run are outside RUN with every FIFO empty, HALTED by the quiet rule (R34 (d)) and FATAL by
R242 (b) itself. -/
theorem endedRunTakesOnlyReset : Obligations.EndedRunTakesOnlyReset := by
  unfold Obligations.EndedRunTakesOnlyReset
  rintro s t i ⟨hdrained, -⟩ (hhalted | ⟨hfatal, hempty⟩) h
  case inl =>
    exact eq_reset_of_not_run_of_empty (by simp [hhalted]) (allQueuesEmpty_iff.mp (hdrained hhalted)) h
  case inr =>
    exact eq_reset_of_not_run_of_empty (by simp [hfatal]) hempty h

end Sys2Proof.Machine
end

section
/-! Encoding and decoding agree (30_encoding.md sections 4 and 5): an instruction is a form of exactly one event in its SYNC_ST,
and an event has exactly one word. -/
namespace Sys2Proof

/-- The word of a well-formed instruction spells its event (R80 to R85). -/
theorem parseEvent_encode {c : Config} {i : Instr} (h : i.wf c = true) : parseEvent c (encode c i) = .ok (i.event c) := by
  cases i with
  | popOk k => exact Laws.EncodeParse.popOk k c h
  | popErr k => exact Laws.EncodeParse.popErr k c h
  | xportErr => exact Laws.EncodeParse.xportErr c h
  | shutdown => exact Laws.EncodeParse.shutdown c h
  | reset => exact Laws.EncodeParse.reset c h
  | _ => exact Laws.EncodeParse.parse_byte c _

/-- In a SYNC_ST that offers a well-formed form, its event is that form again: the byte selects it (R90). -/
theorem instr_event {c : Config} {st : SyncState} {i : Instr} (hc : c.wf = true) (hwf : i.wf c = true)
    (hst : i.offeredIn st = true) : (i.event c).instr c st = i := by
  obtain ⟨h01, h0e, h1e⟩ := Config.framing_bytes_differ hc
  cases i with
  | popOk _ | popErr _ | xportErr | shutdown | reset => rfl
  | _ =>
    obtain rfl := by simpa [Instr.offeredIn, Instr.formState] using hst
    simp_all [Instr.wf, Instr.event, EventKind.instr, classifyByte]

/-- The byte of the form a byte selects is that byte (R90). -/
theorem classifyByte_event (c : Config) (st : SyncState) (b : Byte) : (classifyByte c st b).event c = .byte b := by
  unfold classifyByte
  split <;> split_ifs with h <;> simp_all [Instr.event]

/-- An instruction's event is the event it was read from, in whatever SYNC_ST. -/
theorem event_instr (c : Config) (st : SyncState) (e : EventKind) : (e.instr c st).event c = e := by
  cases e with
  | byte b => exact classifyByte_event c st b
  | _ => rfl

/-- Two event words agree when KIND, ARG and DATA do (R80). -/
theorem eventWord_ext {v w : EventWord} (hkind : evKind v = evKind w) (harg : evArg v = evArg w)
    (hdata : evData v = evData w) : v = w := by
  have join (u : EventWord) : evArg u ++ evData u = u.extractLsb' 0 12 :=
    BitVec.extractLsb'_append_extractLsb'_eq_extractLsb' rfl
  exact eventWord_eq_iff.mpr ⟨hkind, by rw [← join v, ← join w, harg, hdata]⟩

/-- DATA is the seven bits reserved in a POP and its status bit (R82). -/
theorem evData_ext {v w : EventWord} (hreserved : v.extractLsb' 1 7 = w.extractLsb' 1 7)
    (hstatus : v.getLsbD 0 = w.getLsbD 0) : evData v = evData w := by
  have join (u : EventWord) : u.extractLsb' 1 7 ++ u.extractLsb' 0 1 = evData u :=
    BitVec.extractLsb'_append_extractLsb'_eq_extractLsb' rfl
  have hlow : v.extractLsb' 0 1 = w.extractLsb' 0 1 :=
    BitVec.eq_of_getLsbD_eq fun n hn => by simpa [Nat.lt_one_iff.mp hn] using hstatus
  rw [← join v, ← join w, hreserved, hlow]

/-- The only word of an event is its encoding (R81 to R85): KIND, ARG and DATA are those of `encodeEvent`. -/
theorem encodeEvent_of_parseEvent {c : Config} {w : EventWord} {e : EventKind} (h : parseEvent c w = .ok e) :
    encodeEvent e = w := by
  have kind_eq {n : Nat} (hk : (evKind w).toNat = n) : evKind w = BitVec.ofNat 4 n := by
    rw [← hk, BitVec.ofNat_toNat, BitVec.setWidth_eq]
  have control_eq {v : EventWord} (hk : evKind v = evKind w) (h0 : v.extractLsb' 0 12 = 0)
      (hlow : w.extractLsb' 0 12 = 0) : v = w := eventWord_eq_iff.mpr ⟨hk, h0.trans hlow.symm⟩
  unfold parseEvent at h
  split at h
  case h_1 hk =>
    split_ifs at h with harg
    obtain rfl := Except.ok.inj h
    obtain ⟨hk', harg', hdata'⟩ := Laws.EncodeParse.byte_fields (evData w)
    exact eventWord_ext (hk'.trans (kind_eq hk).symm) (harg'.trans harg.symm) hdata'
  case h_2 hk =>
    split_ifs at h with hreserved hsink hstatus
    · obtain rfl := Except.ok.inj h
      obtain ⟨hk', harg', hreserved', hstatus'⟩ := Laws.EncodeParse.popErr_fields (evArg w)
      exact eventWord_ext (hk'.trans (kind_eq hk).symm) harg'
        (evData_ext (hreserved'.trans (not_not.mp hreserved).symm) (hstatus'.trans hstatus.symm))
    · obtain rfl := Except.ok.inj h
      obtain ⟨hk', harg', hreserved', hstatus'⟩ := Laws.EncodeParse.popOk_fields (evArg w)
      exact eventWord_ext (hk'.trans (kind_eq hk).symm) harg'
        (evData_ext (hreserved'.trans (not_not.mp hreserved).symm)
          (hstatus'.trans (Bool.eq_false_iff.mpr hstatus).symm))
  case h_3 hk | h_4 hk | h_5 hk =>
    split_ifs at h with hlow
    obtain rfl := Except.ok.inj h
    exact control_eq (kind_eq hk).symm (by decide) hlow
  case h_6 => simp at h

/-- A POP word that spells an event names a sink that exists (R82, R87). -/
theorem evArg_lt_of_parseEvent {c : Config} {w : EventWord} {e : EventKind} (h : parseEvent c w = .ok e)
    (hkind : evKind w = 2) : (evArg w).toNat < c.nSinks := by
  have hrow : w.extractLsb' 1 7 = 0 ∧ (evArg w).toNat < c.nSinks := by
    simpa [hkind] using exists_parseEvent_eq_ok_iff.mp ⟨e, h⟩
  obtain ⟨-, hlt⟩ := hrow
  exact hlt

/-- A parsed event names a sink that exists, and so its form is well formed in every SYNC_ST (R82, R87, R90). -/
theorem instr_wf_of_parseEvent {c : Config} {st : SyncState} {w : EventWord} {e : EventKind}
    (h : parseEvent c w = .ok e) : (e.instr c st).wf c = true := by
  cases e with
  | byte b => exact classifyByte_wf c st b
  | xportErr | shutdown | reset => rfl
  | popOk k =>
    obtain ⟨hkind, harg, -, -⟩ := Laws.EncodeParse.popOk_fields k
    rw [encodeEvent_of_parseEvent h] at hkind harg
    exact decide_eq_true (harg ▸ evArg_lt_of_parseEvent h hkind)
  | popErr k =>
    obtain ⟨hkind, harg, -, -⟩ := Laws.EncodeParse.popErr_fields k
    rw [encodeEvent_of_parseEvent h] at hkind harg
    exact decide_eq_true (harg ▸ evArg_lt_of_parseEvent h hkind)

/-- The form of an event is offered in the SYNC_ST it was read in (R90). -/
theorem instr_offeredIn (c : Config) (st : SyncState) (e : EventKind) : (e.instr c st).offeredIn st = true := by
  cases e with
  | byte b => simp [EventKind.instr, Instr.offeredIn]
  | _ => rfl

/-- What decodes is the form of the event its word spells. -/
theorem decode_eq_ok_iff {c : Config} {st : SyncState} {w : EventWord} {i : Instr} :
    decode c st w = .ok i ↔ ∃ e, parseEvent c w = .ok e ∧ e.instr c st = i := by
  unfold decode
  cases parseEvent c w <;> simp

/-- Settles O1: the word spells the instruction's event, and the event's form in a SYNC_ST that offers the instruction is the
instruction. -/
theorem decodeEncodeAgree : Obligations.DecodeEncodeAgree := by
  unfold Obligations.DecodeEncodeAgree
  exact fun c st i hc hwf hst => decode_eq_ok_iff.mpr ⟨i.event c, parseEvent_encode hwf, instr_event hc hwf hst⟩

/-- Settles O2: the instruction's event is the one its word spells, and an event's word is its only one. -/
theorem encodeDecodeAgree : Obligations.EncodeDecodeAgree := by
  unfold Obligations.EncodeDecodeAgree
  intro c st w i h
  obtain ⟨e, hparse, rfl⟩ := decode_eq_ok_iff.mp h
  refine ⟨?word, instr_wf_of_parseEvent hparse, instr_offeredIn c st e⟩
  case word => rw [encode, event_instr, encodeEvent_of_parseEvent hparse]

/-- Settles O6: each word is decoded under the default configuration. -/
theorem specWordsDecode : Obligations.SpecWordsDecode := by
  unfold Obligations.SpecWordsDecode
  exact ⟨rfl, rfl, rfl, rfl, rfl, rfl, rfl, rfl, rfl⟩

end Sys2Proof
end

section
/-! What an event does, said once as a relation: `Effect s i t` has one constructor per outcome of an event with a step, the
completion (41_decoder.md R130) split into its failures and its success. The invariants and frames below are case splits
on it. -/
namespace Sys2Proof.Machine

/-- The outcomes of an event i with a step from s to t. -/
inductive Effect (s : State) : Instr → State → Prop
  /-- A byte moves SYNC_ST on its side of the sentinel, and raises nothing (R102, R103, R105 to R107). -/
  | moved {i : Instr} (st : SyncState) (hrun : s.mode = .run) (hbyte : i.isByte = true)
      (hquiet : storedByte s.cfg i = none) (hesc : s.syncSt ≠ .accEsc)
      (hside : (st = .accum ∨ st = .accEsc) ↔ inFrame s) : Effect s i (setSync st (countByte s))
  /-- The sentinel is complete (R104). -/
  | started (hrun : s.mode = .run) (hst : s.syncSt = .seekS1) : Effect s .seekS1Sync1 (startFrame (countByte s))
  /-- The sentinel is complete inside a frame (R110). -/
  | truncated (hrun : s.mode = .run) (hst : s.syncSt = .accEsc) : Effect s .accEscSync1 (truncate (countByte s))
  /-- A bad escape drops the span (R111, R112). -/
  | escapeFailed {i : Instr} (st : SyncState) (hrun : s.mode = .run) (hst : s.syncSt = .accEsc)
      (hform : i = .accEscSync0 ∧ st = .seekS1 ∨ ∃ b, i = .accEscBad b ∧ st = .seekIdle) :
      Effect s i (badEscape st (countByte s))
  /-- A logical byte is stored and is not the last (R113). -/
  | accumulated {i : Instr} (v : Byte) (hrun : s.mode = .run) (hin : inFrame s) (hv : storedByte s.cfg i = some v)
      (hmore : (s.cnt + 1).toNat ≠ s.cfg.frameLen) : Effect s i (setSync .accum (putByte v (countByte s)))
  /-- The last logical byte completes a candidate that fails (R113, R130). -/
  | rejected {i : Instr} (v : Byte) (e : Err) (hrun : s.mode = .run) (hin : inFrame s)
      (hv : storedByte s.cfg i = some v) (hlast : (s.cnt + 1).toNat = s.cfg.frameLen)
      (hdec : decodeCandidate s.cfg (putByte v s).buf (sampleTs s) = .error e) :
      Effect s i (setSync .seekIdle (discard (raiseErr e (countCandidate (putByte v (countByte s))))))
  /-- The last logical byte completes a candidate that decodes (R113, R130). -/
  | emitted {i : Instr} (v : Byte) (rs : ReadingSet) (hrun : s.mode = .run) (hin : inFrame s)
      (hv : storedByte s.cfg i = some v) (hlast : (s.cnt + 1).toNat = s.cfg.frameLen)
      (hdec : decodeCandidate s.cfg (putByte v s).buf (sampleTs s) = .ok rs) :
      Effect s i (setSync .seekIdle (discard (emit rs (countCandidate (putByte v (countByte s))))))
  /-- A sink takes its head, and the drain is checked (R161 to R163). -/
  | popped {i : Instr} (k : BitVec 4) (take : Sink → Sink)
      (hpop : i = .popOk k ∧ take = takeDelivered s.cfg ∨ i = .popErr k ∧ take = takeFailed s.cfg)
      (hk : k.toNat < s.cfg.nSinks) (hq : s.queue k.toNat ≠ []) : Effect s i (drainCheck (modifySink k.toNat take s))
  /-- The transport failed (R180). -/
  | transportFailed (hrun : s.mode = .run) :
      Effect s .xportErr (raiseErr .transportError (setSync .seekIdle (discard s)))
  /-- The block closes (R181). -/
  | closed (hrun : s.mode = .run) : Effect s .shutdown (closeMode (setSync .seekIdle (discard s)))
  /-- The block is reset (R182). -/
  | wasReset : Effect s .reset (resetState s)

/-- Storing a logical byte has the three outcomes of R113 and R130. -/
theorem effect_of_store {s : State} {i : Instr} {v : Byte} (hrun : s.mode = .run) (hin : inFrame s)
    (hv : storedByte s.cfg i = some v) : Effect s i (store v (countByte s)) := by
  obtain ⟨hlast, hstore⟩ | ⟨hmore, hstore⟩ := store_cases v (countByte s)
  · obtain ⟨e, hdec, -, hcomplete⟩ | ⟨rs, hdec, hcomplete⟩ := complete_cases (putByte v (countByte s))
    · rw [hstore, hcomplete]
      exact .rejected v e hrun hin hv hlast hdec
    · rw [hstore, hcomplete]
      exact .emitted v rs hrun hin hv hlast hdec
  · rw [hstore]
    exact .accumulated v hrun hin hv hmore

/-- A BYTE form that its SYNC_ST selects has the effect of its row (R102 to R112). -/
theorem effect_of_byteEffect {s : State} {i : Instr} (hrun : s.mode = .run) (hform : i.formState = some s.syncSt) :
    Effect s i (byteEffect s.cfg i (countByte s)) := by
  cases i with
  | seekIdleSync0 | seekIdleNoise b | seekS1Sync0 | seekS1Noise b | accumEscLead =>
    have hst := Option.some.inj hform
    exact .moved _ hrun rfl rfl (by simp [← hst]) (by simp [inFrame, ← hst])
  | seekS1Sync1 => exact .started hrun (Option.some.inj hform).symm
  | accumLiteral b => exact effect_of_store hrun (.inl (Option.some.inj hform).symm) rfl
  | accEscEscLit => exact effect_of_store hrun (.inr (Option.some.inj hform).symm) rfl
  | accEscSync1 => exact .truncated hrun (Option.some.inj hform).symm
  | accEscSync0 => exact .escapeFailed _ hrun (Option.some.inj hform).symm (.inl ⟨rfl, rfl⟩)
  | accEscBad b => exact .escapeFailed _ hrun (Option.some.inj hform).symm (.inr ⟨b, rfl, rfl⟩)
  | popOk _ | popErr _ | xportErr | shutdown | reset => contradiction

/-- Taking a head and counting its delivery are one change of the sink (R161). -/
theorem countDelivered_dropHead (k : Nat) (s : State) :
    countDelivered k (dropHead k s) = modifySink k (takeDelivered s.cfg) s :=
  modifySink_modifySink ..

/-- Taking a head and counting its failure are one change of the sink (R162). -/
theorem raiseErr_sinkError_dropHead (k : Nat) (s : State) :
    raiseErr (.sinkError k) (dropHead k s) = modifySink k (takeFailed s.cfg) s :=
  modifySink_modifySink ..

/-- Every event with a step has one of the outcomes. -/
theorem effect_of_exec {s t : State} {i : Instr} (h : exec i s = .next t) : Effect s i t := by
  obtain ⟨-, hrun, hform, -, rfl⟩ | ⟨k, rfl, hk, hq, rfl⟩ | ⟨k, rfl, hk, hq, rfl⟩ | ⟨rfl, hrun, rfl⟩ | ⟨rfl, hrun, rfl⟩ |
    ⟨rfl, rfl⟩ := exec_eq_next h
  · exact effect_of_byteEffect hrun hform
  · rw [countDelivered_dropHead]
    exact .popped k _ (.inl ⟨rfl, rfl⟩) hk hq
  · rw [raiseErr_sinkError_dropHead]
    exact .popped k _ (.inr ⟨rfl, rfl⟩) hk hq
  · exact .transportFailed hrun
  · exact .closed hrun
  · exact .wasReset

end Sys2Proof.Machine
end

section
/-! What an event leaves unchanged: the frames of a POP, of the storing BYTE forms and of the others, and the inputs. -/
namespace Sys2Proof.Machine

/-- What a POP does to its sink: the head goes, and neither an offer nor a drop is counted (R161, R162). -/
theorem take_keeps {c : Config} {take : Sink → Sink} (h : take = takeDelivered c ∨ take = takeFailed c) (snk : Sink) :
    (take snk).q = snk.q.tail ∧ (take snk).enq = snk.enq ∧ (take snk).drop = snk.drop := by
  obtain rfl | rfl := h <;> exact ⟨rfl, rfl, rfl⟩

/-- A POP with a step takes the head of its sink and checks the drain. -/
theorem exec_pop_eq {s t : State} {k : BitVec 4} {i : Instr} (hpop : i = .popOk k ∨ i = .popErr k)
    (h : exec i s = .next t) :
    ∃ take, (take = takeDelivered s.cfg ∨ take = takeFailed s.cfg) ∧ t = drainCheck (modifySink k.toNat take s) := by
  obtain rfl | rfl := hpop
  · obtain ⟨-, -, rfl⟩ := popSink_eq_next.mp h
    exact ⟨takeDelivered s.cfg, .inl rfl, congrArg drainCheck (countDelivered_dropHead k.toNat s)⟩
  · obtain ⟨-, -, rfl⟩ := popSink_eq_next.mp h
    exact ⟨takeFailed s.cfg, .inr rfl, congrArg drainCheck (raiseErr_sinkError_dropHead k.toNat s)⟩

/-- Settles O30: the head is taken by a change of sink k alone, and the drain check writes MODE alone. -/
theorem popFrame : Obligations.PopFrame := by
  unfold Obligations.PopFrame
  intro s t k i hpop h
  obtain ⟨take, htake, rfl⟩ := exec_pop_eq hpop h
  refine ⟨?rest, fun a => by simp, fun j hj => by simp [hj.symm], fun snk hs => ?sink⟩
  case rest =>
    obtain ⟨-, -, hdrain⟩ | ⟨-, hdrain⟩ := drainCheck_cases (modifySink k.toNat take s)
    · rw [hdrain]
      rfl
    · rw [hdrain]
      rfl
  case sink =>
    obtain ⟨-, henq, hdrop⟩ := take_keeps htake snk
    exact ⟨take snk, by simp [hs], henq, hdrop⟩

/-- A storing form with a step stores its logical byte (R108, R109). -/
theorem exec_storing_eq {s t : State} {i : Instr} {v : Byte} (hv : storedByte s.cfg i = some v)
    (h : exec i s = .next t) : t = store v (countByte s) := by
  cases i with
  | accumLiteral b =>
    obtain ⟨-, -, -, rfl⟩ := (exec_byte_eq_next rfl).mp h
    exact congrArg (store · (countByte s)) (Option.some.inj hv)
  | accEscEscLit =>
    obtain ⟨-, -, -, rfl⟩ := (exec_byte_eq_next rfl).mp h
    exact congrArg (store · (countByte s)) (Option.some.inj hv)
  | _ => contradiction

/-- An offer changes no count of what a sink took (R160). -/
@[simp] theorem offerTo_deliv (c : Config) (rs : ReadingSet) (snk : Sink) : (offerTo c rs snk).deliv = snk.deliv := by
  obtain ⟨-, h⟩ | ⟨-, h⟩ := offerTo_cases c rs snk <;> rw [h]

/-- An offer changes no count of what a sink failed on (R160). -/
@[simp] theorem offerTo_sinkErr (c : Config) (rs : ReadingSet) (snk : Sink) :
    (offerTo c rs snk).sinkErr = snk.sinkErr := by
  obtain ⟨-, h⟩ | ⟨-, h⟩ := offerTo_cases c rs snk <;> rw [h]

/-- Every offer is counted (R160). -/
@[simp] theorem offerTo_enq (c : Config) (rs : ReadingSet) (snk : Sink) : (offerTo c rs snk).enq = bump c snk.enq := by
  obtain ⟨-, h⟩ | ⟨-, h⟩ := offerTo_cases c rs snk <;> rw [h]

/-- A completion leaves the sinks or offers one set to each (R130). -/
theorem complete_sinks (s : State) :
    (complete s).sinks = s.sinks ∨ ∃ rs, (complete s).sinks = s.sinks.map (offerTo s.cfg rs) := by
  obtain ⟨e, -, he, h⟩ | ⟨rs, -, h⟩ := complete_cases s
  · left
    obtain rfl | rfl | rfl := he <;> rw [h] <;> rfl
  · exact .inr ⟨rs, by rw [h]; rfl⟩

/-- Storing a byte leaves the sinks or offers one set to each. -/
theorem store_sinks (v : Byte) (s : State) :
    (store v s).sinks = s.sinks ∨ ∃ rs, (store v s).sinks = s.sinks.map (offerTo s.cfg rs) := by
  obtain ⟨-, h⟩ | ⟨-, h⟩ := store_cases v s
  · simpa [h] using complete_sinks (putByte v s)
  · simp [h]

/-- A write to a list of bytes shows at its index only. -/
theorem bufByte_set_ne {buf : List Byte} {i a : Nat} (v : Byte) (h : a ≠ i) :
    bufByte (buf.set i v) a = bufByte buf a := by
  simp [bufByte, List.getElem?_set_ne h.symm]

/-- Settles O31: store(v) writes BUF at CNT; only a completion reaches the decoder's counters and the sinks, and an offer counts
nothing that a sink took. -/
theorem storingFormFrame : Obligations.StoringFormFrame := by
  unfold Obligations.StoringFormFrame
  intro s t i b hform h
  obtain ⟨v, hv⟩ : ∃ v, storedByte s.cfg i = some v := by obtain rfl | rfl := hform <;> exact ⟨_, rfl⟩
  obtain rfl := exec_storing_eq hv h
  have hsinks := store_sinks v (countByte s)
  refine ⟨fun a ha => by simp [bufByte_set_ne v ha], by simp, by simp, by simp, by simp, by simp, by simp, by simp,
    ?count, fun hmore => ?more, fun k snk snk' hs ht => ?sink⟩
  case count => obtain h | ⟨rs, h⟩ := hsinks <;> simp [h]
  case more =>
    obtain ⟨hlast, -⟩ | ⟨-, hstore⟩ := store_cases v (countByte s)
    · exact absurd hlast hmore
    · rw [hstore]
      exact ⟨rfl, rfl, rfl, rfl, rfl, rfl, rfl⟩
  case sink =>
    obtain h | ⟨rs, h⟩ := hsinks
    · obtain rfl : snk = snk' := by simpa [h, hs] using ht
      exact ⟨rfl, rfl⟩
    · obtain rfl : offerTo s.cfg rs snk = snk' := by simpa [h, hs] using ht
      exact ⟨offerTo_deliv .., offerTo_sinkErr ..⟩

/-- start_frame() writes the two sentinel bytes and no other (R101). -/
theorem bufByte_sentinel_of_two_le {buf : List Byte} {a : Nat} (x y : Byte) (h : 2 ≤ a) :
    bufByte ((buf.set 0 x).set 1 y) a = bufByte buf a := by
  rw [bufByte_set_ne y (by omega), bufByte_set_ne x (by omega)]

/-- Settles O32: the forms that store nothing move SYNC_ST, start a frame, or raise an error of the span. -/
theorem nonStoringFormFrame : Obligations.NonStoringFormFrame := by
  unfold Obligations.NonStoringFormFrame
  intro s t i hbyte hquiet h
  cases effect_of_exec h with
  | moved st => simp
  | started => simp +contextual [bufByte_sentinel_of_two_le]
  | truncated => simp +contextual [bufByte_sentinel_of_two_le, Instr.formState]
  | escapeFailed st _ _ hform => obtain ⟨rfl, rfl⟩ | ⟨b, rfl, rfl⟩ := hform <;> simp [Instr.formState]
  | accumulated _ _ _ hv | rejected _ _ _ _ hv | emitted _ _ _ _ hv => simp [hquiet] at hv
  | popped _ _ hpop => obtain ⟨rfl, -⟩ | ⟨rfl, -⟩ := hpop <;> contradiction
  | transportFailed | closed | wasReset => contradiction

/-- Settles O36: no outcome writes the inputs, and of all outcomes only RESET draws. -/
theorem inputsStay : Obligations.InputsStay := by
  unfold Obligations.InputsStay
  intro s t i h
  cases effect_of_exec h with
  | wasReset => exact ⟨rfl, rfl, fun hne => absurd rfl hne, fun _ => rfl⟩
  | popped _ _ hpop => obtain ⟨rfl, -⟩ | ⟨rfl, -⟩ := hpop <;> simp
  | moved _ _ hbyte =>
    refine ⟨rfl, rfl, fun _ => rfl, ?_⟩
    rintro rfl
    contradiction
  | escapeFailed _ _ _ hform => obtain ⟨rfl, rfl⟩ | ⟨b, rfl, rfl⟩ := hform <;> simp
  | accumulated _ _ _ hv | rejected _ _ _ _ hv | emitted _ _ _ _ hv =>
    have hne : i ≠ .reset := by
      rintro rfl
      contradiction
    simp [hne]
  | started | truncated | transportFailed | closed => simp

end Sys2Proof.Machine
end

section
/-! Where a BYTE form stops, and that no byte stops in RUN (40_synchronizer.md sections 1 and 4); what a step executes
(00_scope.md R12). -/
namespace Sys2Proof.Machine

/-- In RUN a form that SYNC_ST or its byte does not select is refused (log entry 9). -/
theorem exec_byte_of_not_selected {i : Instr} {s : State} (hb : i.isByte = true) (hm : s.mode = .run)
    (h : i.offeredIn s.syncSt = false ∨ i.wf s.cfg = false) : exec i s = .refused .notThisByteForm := by
  have refused {st : SyncState} {c : Bool} {f : State → State} (hform : i.formState = some st) (hc : i.wf s.cfg = c) :
      byteForm st c f s = .refused .notThisByteForm := by
    have hsel : ¬ (s.syncSt = st ∧ c = true) := by
      rintro ⟨rfl, rfl⟩
      simp [Instr.offeredIn, hform, hc] at h
    rw [byteForm, if_neg (not_not.mpr hm), if_neg hsel]
  cases i with
  | popOk _ | popErr _ | xportErr | shutdown | reset => contradiction
  | _ => exact refused rfl rfl

/-- Settles O17: a BYTE form is tested for MODE first, then for its row. -/
theorem byteFormStops : Obligations.ByteFormStops := by
  unfold Obligations.ByteFormStops
  exact fun s i hb => ⟨exec_byte_of_not_run hb, exec_byte_of_not_selected hb⟩

/-- A step on a BYTE word in RUN counts the byte and takes the effect of the form it selects (R100). -/
theorem step_byte {s : State} {o : Offer} {rest : List Offer} {b : Byte} (hwf : s.cfg.wf = true) (hm : s.mode = .run)
    (hp : s.pending = o :: rest) (hw : o.word = encodeEvent (.byte b)) :
    step s = .next (byteEffect s.cfg (classifyByte s.cfg s.syncSt b) (countByte (takeOffer o rest s))) := by
  rw [step_of_decode_eq_ok hwf hp (hw ▸ decode_byte s.cfg s.syncSt b)]
  exact exec_byte_of_run hm (classifyByte_formState ..) (classifyByte_wf ..)

/-- A BYTE form leaves MODE, completion included. -/
@[simp] theorem byteEffect_mode (c : Config) (i : Instr) (s : State) : (byteEffect c i s).mode = s.mode := by
  cases i <;> simp [byteEffect]

/-- A BYTE form takes no offer. -/
@[simp] theorem byteEffect_pending (c : Config) (i : Instr) (s : State) : (byteEffect c i s).pending = s.pending := by
  cases i <;> simp [byteEffect]

/-- Settles O43: every byte selects a form of its SYNC_ST, whose effect leaves MODE. -/
theorem synchronizerNeverStalls : Obligations.SynchronizerNeverStalls := by
  unfold Obligations.SynchronizerNeverStalls
  exact fun s o rest b hwf hm hp hw => ⟨_, step_byte hwf hm hp hw, by simpa using hm, by simp⟩

/-- Settles O7: with an offer a step is exec of what its word decodes to, with none it has nothing to fetch. -/
theorem stepRunsDecodedInstruction : Obligations.StepRunsDecodedInstruction := by
  unfold Obligations.StepRunsDecodedInstruction
  refine ⟨fun s o rest i => step_of_decode_eq_ok, fun s hwf hp => ?_⟩
  simp [step, fetch, hwf, hp, execFetched]

end Sys2Proof.Machine
end

section
/-! The quiet rule and the counter balance (10_state.md R34): every outcome keeps them. -/
namespace Sys2Proof.Machine

/-- In RUN the quiet rule asks nothing. -/
theorem quiet_of_run {s : State} (h : s.mode = .run) : Quiet s := by
  simp [Quiet, h]

/-- A POP keeps the quiet rule: HALTED has no entry to take, and CLOSING is left for HALTED when the last entry is gone. -/
theorem quiet_drainCheck_modifySink {s : State} {k : Nat} {take : Sink → Sink} (h : Quiet s) (hq : s.queue k ≠ []) :
    Quiet (drainCheck (modifySink k take s)) := by
  obtain ⟨hhalted, hspan⟩ := h
  obtain ⟨hclosing, hempty, hdrain⟩ | ⟨-, hdrain⟩ := drainCheck_cases (modifySink k take s)
  · have hidle : s.syncSt = .seekIdle ∧ s.cnt = 0 := hspan (by simp [show s.mode = .closing from hclosing])
    rw [hdrain]
    exact ⟨fun _ => hempty, fun _ => hidle⟩
  · rw [hdrain]
    exact ⟨fun hm => absurd (queue_eq_nil_of_empty (allQueuesEmpty_iff.mp (hhalted hm)) k) hq, hspan⟩

/-- SHUTDOWN meets the quiet rule: it is HALTED only with every FIFO empty, and it drops the span (R181). -/
theorem quiet_closeMode (s : State) : Quiet (closeMode (setSync .seekIdle (discard s))) := by
  refine ⟨fun hm => ?_, fun _ => ⟨rfl, rfl⟩⟩
  by_contra hne
  simp [show allQueuesEmpty (setSync .seekIdle (discard s)) = false from Bool.eq_false_iff.mpr hne] at hm

/-- Every outcome of an event keeps the quiet rule. -/
theorem quiet_of_effect {s t : State} {i : Instr} (h : Quiet s) (heff : Effect s i t) : Quiet t := by
  cases heff with
  | moved _ hrun | started hrun | truncated hrun | escapeFailed _ hrun | accumulated _ hrun | emitted _ _ hrun =>
    exact quiet_of_run (by simpa using hrun)
  | rejected _ e hrun _ _ _ hdec =>
    obtain rfl | rfl | rfl := decodeCandidate_error hdec <;> exact quiet_of_run (by simpa [raiseErr_mode] using hrun)
  | popped k take _ _ hq => exact quiet_drainCheck_modifySink h hq
  | transportFailed => exact ⟨fun hm => by simp [raiseErr] at hm, fun _ => ⟨rfl, rfl⟩⟩
  | closed => exact quiet_closeMode s
  | wasReset => exact quiet_of_run rfl

/-- Settles O41: a step executes an event on the state that has taken its offer, and every outcome keeps the rule. -/
theorem stepKeepsQuiet : Obligations.StepKeepsQuiet := by
  unfold Obligations.StepKeepsQuiet
  intro s t h hstep
  obtain ⟨-, o, rest, i, -, -, -, hexec⟩ := step_eq_next hstep
  exact quiet_of_effect (s := takeOffer o rest s) h (effect_of_exec hexec)

/-- Every sink of a changed list has P when every sink of the list has, and the change keeps it at its index. -/
theorem forall_mem_modify {P : Sink → Prop} {l : List Sink} {k : Nat} {f : Sink → Sink} (h : ∀ snk ∈ l, P snk)
    (hf : ∀ snk, l[k]? = some snk → P (f snk)) : ∀ snk ∈ l.modify k f, P snk := by
  intro snk hmem
  obtain ⟨j, hj⟩ := List.mem_iff_getElem?.mp hmem
  by_cases hjk : k = j
  · subst hjk
    obtain ⟨old, hold, rfl⟩ : ∃ old, l[k]? = some old ∧ f old = snk := by simpa using hj
    exact hf old hold
  · exact h snk (List.mem_of_getElem? (by simpa [hjk] using hj))

/-- A counter counts by one, modulo 2^CTR_W (R26). -/
theorem bump_modEq (c : Config) (n : Nat) : bump c n ≡ n + 1 [MOD 2 ^ c.ctrW] := Nat.mod_modEq _ _

/-- The balance of one sink when CTR_OK is ok: every offered set was delivered, failed on, dropped, or is queued
(R34 (b), (c)). -/
def SinkBalanced (c : Config) (ok : Nat) (snk : Sink) : Prop :=
  snk.enq = ok ∧ snk.enq ≡ snk.deliv + snk.sinkErr + snk.drop + snk.q.length [MOD 2 ^ c.ctrW]

/-- The decoder's balance: every candidate was emitted or failed (R34 (a)). -/
def DecoderBalanced (s : State) : Prop :=
  s.ctrCand ≡ s.ctrOk + s.ctrCkErr + s.ctrUnkDev + s.ctrMalf [MOD 2 ^ s.cfg.ctrW]

/-- The counter balance is the decoder's and each sink's. -/
theorem accounting_iff {s : State} :
    Accounting s ↔ DecoderBalanced s ∧ ∀ snk ∈ s.sinks, SinkBalanced s.cfg s.ctrOk snk := Iff.rfl

/-- An offer keeps the balance: of a full FIFO it drops one set and counts the drop. -/
theorem sinkBalanced_offerTo {c : Config} {ok : Nat} {rs : ReadingSet} {snk : Sink} (hdepth : 1 ≤ c.qDepth)
    (h : SinkBalanced c ok snk) : SinkBalanced c (bump c ok) (offerTo c rs snk) := by
  obtain ⟨rfl, hsum⟩ := h
  refine ⟨offerTo_enq .., ?_⟩
  have henq : bump c snk.enq ≡ snk.deliv + snk.sinkErr + snk.drop + snk.q.length + 1 [MOD 2 ^ c.ctrW] :=
    (bump_modEq c snk.enq).trans (hsum.add_right 1)
  obtain ⟨hfull, hoffer⟩ | ⟨-, hoffer⟩ := offerTo_cases c rs snk
  · have hdrop := ((bump_modEq c snk.drop).add_left (snk.deliv + snk.sinkErr)).add_right snk.q.length
    have hlen : (snk.q.tail ++ [rs]).length = snk.q.length := by
      rw [List.length_append, List.length_tail, List.length_singleton]
      omega
    rw [hoffer]
    simp only [hlen]
    refine henq.trans (Nat.ModEq.trans ?_ hdrop.symm)
    rw [Nat.add_right_comm]
    rfl
  · rw [hoffer]
    simpa [add_assoc] using henq

/-- A POP keeps the balance: the entry that goes is counted as delivered or as failed. -/
theorem sinkBalanced_take {c : Config} {ok : Nat} {snk : Sink} {take : Sink → Sink}
    (htake : take = takeDelivered c ∨ take = takeFailed c) (hq : snk.q ≠ []) (h : SinkBalanced c ok snk) :
    SinkBalanced c ok (take snk) := by
  obtain ⟨hok, hsum⟩ := h
  have hlen : snk.q.length = snk.q.tail.length + 1 := by
    have := List.length_pos_of_ne_nil hq
    rw [List.length_tail]
    omega
  obtain rfl | rfl := htake
  · have hcount := (((bump_modEq c snk.deliv).add_right snk.sinkErr).add_right snk.drop).add_right snk.q.tail.length
    refine ⟨hok, hsum.trans (Nat.ModEq.trans ?_ hcount.symm)⟩
    rw [hlen]
    exact congrArg (· % _) (by omega)
  · have hcount := (((bump_modEq c snk.sinkErr).add_left snk.deliv).add_right snk.drop).add_right snk.q.tail.length
    refine ⟨hok, hsum.trans (Nat.ModEq.trans ?_ hcount.symm)⟩
    rw [hlen]
    exact congrArg (· % _) (by omega)

/-- Dropping the span and moving SYNC_ST do not bear on the decoder's balance. -/
theorem decoderBalanced_setSync_discard {st : SyncState} {s : State} (h : DecoderBalanced s) :
    DecoderBalanced (setSync st (discard s)) := h

/-- One more failed candidate of any of the three kinds keeps the decoder's balance. -/
theorem decoderBalanced_raiseErr {s : State} {e : Err}
    (he : e = .checksumError ∨ e = .unknownDeviceError ∨ e = .malformedPayloadError) (h : DecoderBalanced s) :
    DecoderBalanced (raiseErr e (countCandidate s)) := by
  have hcand : bump s.cfg s.ctrCand ≡ s.ctrOk + s.ctrCkErr + s.ctrUnkDev + s.ctrMalf + 1 [MOD 2 ^ s.cfg.ctrW] :=
    (bump_modEq ..).trans (Nat.ModEq.add_right 1 h)
  have hone (n a b d : Nat) : a + bump s.cfg n + b + d ≡ a + n + b + d + 1 [MOD 2 ^ s.cfg.ctrW] :=
    ((((bump_modEq s.cfg n).add_left a).add_right b).add_right d).trans (congrArg (· % _) (by omega))
  obtain rfl | rfl | rfl := he
  · simpa [DecoderBalanced, raiseErr] using hcand.trans (hone s.ctrCkErr s.ctrOk s.ctrUnkDev s.ctrMalf).symm
  · simpa [DecoderBalanced, raiseErr] using hcand.trans (hone s.ctrUnkDev (s.ctrOk + s.ctrCkErr) s.ctrMalf 0).symm
  · simpa [DecoderBalanced, raiseErr] using hcand.trans (hone s.ctrMalf (s.ctrOk + s.ctrCkErr + s.ctrUnkDev) 0 0).symm

/-- One more emitted candidate keeps the decoder's balance. -/
theorem decoderBalanced_emit {s : State} (rs : ReadingSet) (h : DecoderBalanced s) :
    DecoderBalanced (emit rs (countCandidate s)) := by
  have hcand : bump s.cfg s.ctrCand ≡ s.ctrOk + s.ctrCkErr + s.ctrUnkDev + s.ctrMalf + 1 [MOD 2 ^ s.cfg.ctrW] :=
    (bump_modEq ..).trans (Nat.ModEq.add_right 1 h)
  have hok := (((bump_modEq s.cfg s.ctrOk).add_right s.ctrCkErr).add_right s.ctrUnkDev).add_right s.ctrMalf
  exact hcand.trans (Nat.ModEq.trans (congrArg (· % _) (by omega)) hok.symm)

/-- A failed candidate reaches no sink (R204). -/
theorem raiseErr_sinks_of_candidate {s : State} {e : Err}
    (he : e = .checksumError ∨ e = .unknownDeviceError ∨ e = .malformedPayloadError) : (raiseErr e s).sinks = s.sinks := by
  obtain rfl | rfl | rfl := he <;> rfl

/-- The change a POP outcome makes is one of the two. -/
theorem take_of_pop {c : Config} {i : Instr} {k : BitVec 4} {take : Sink → Sink}
    (h : i = .popOk k ∧ take = takeDelivered c ∨ i = .popErr k ∧ take = takeFailed c) :
    take = takeDelivered c ∨ take = takeFailed c :=
  h.imp And.right And.right

/-- Every outcome of an event keeps the counter balance, under an admitted configuration. -/
theorem accounting_of_effect {s t : State} {i : Instr} (hwf : s.cfg.wf = true) (h : Accounting s)
    (heff : Effect s i t) : Accounting t := by
  obtain ⟨hdec, hsinks⟩ := accounting_iff.mp h
  cases heff with
  | moved | started | truncated | escapeFailed | accumulated | closed => simpa [Accounting] using h
  | transportFailed => simpa [Accounting, raiseErr] using h
  | rejected v e _ _ _ _ hcand =>
    have he := decodeCandidate_error hcand
    refine accounting_iff.mpr
      ⟨decoderBalanced_setSync_discard (decoderBalanced_raiseErr (s := putByte v (countByte s)) he hdec), ?_⟩
    simpa [raiseErr_sinks_of_candidate he] using hsinks
  | emitted v rs =>
    refine accounting_iff.mpr
      ⟨decoderBalanced_setSync_discard (decoderBalanced_emit (s := putByte v (countByte s)) rs hdec), fun snk hmem => ?_⟩
    obtain ⟨old, hold, rfl⟩ : ∃ old ∈ s.sinks, offerTo s.cfg rs old = snk := by simpa using hmem
    simpa using sinkBalanced_offerTo (Config.one_le_qDepth hwf) (hsinks old hold)
  | popped k take hpop _ hq =>
    refine accounting_iff.mpr ⟨by simpa [DecoderBalanced] using hdec, ?_⟩
    simp only [drainCheck_sinks, drainCheck_cfg, drainCheck_ctrOk, modifySink_sinks, modifySink_cfg, modifySink_ctrOk]
    refine forall_mem_modify hsinks fun snk hs => ?_
    rw [queue_of_getElem? hs] at hq
    exact sinkBalanced_take (take_of_pop hpop) hq (hsinks snk (List.mem_of_getElem? hs))
  | wasReset =>
    refine accounting_iff.mpr ⟨rfl, fun snk hmem => ?_⟩
    rw [List.eq_of_mem_replicate hmem]
    exact ⟨rfl, rfl⟩

/-- Settles O40: a step executes an event on the state that has taken its offer, and every outcome keeps the balance. -/
theorem stepKeepsAccounting : Obligations.StepKeepsAccounting := by
  unfold Obligations.StepKeepsAccounting
  intro s t h hstep
  obtain ⟨hwf, o, rest, i, -, -, -, hexec⟩ := step_eq_next hstep
  exact accounting_of_effect (s := takeOffer o rest s) hwf h (effect_of_exec hexec)

end Sys2Proof.Machine
end

section
/-! The machine invariant (10_state.md R23, R24, R26, R28, R29): each of its parts is kept by every outcome. -/
namespace Sys2Proof.Machine

/-- Storing a byte, starting a frame and RESET keep the length of BUF, and no outcome adds or drops a sink. -/
theorem shapeInv_of_effect {s t : State} {i : Instr} (h : ShapeInv s) (heff : Effect s i t) : ShapeInv t := by
  cases heff with
  | moved | started | truncated | escapeFailed | accumulated | emitted | popped | closed => simpa [ShapeInv] using h
  | transportFailed => simpa [ShapeInv, raiseErr] using h
  | rejected _ e _ _ _ _ hdec => simpa [ShapeInv, raiseErr_sinks_of_candidate (decodeCandidate_error hdec)] using h
  | wasReset =>
    obtain ⟨hwf, -, -⟩ := h
    exact ⟨hwf, freeBuf_length .., List.length_replicate⟩

/-- Outside a frame the span invariants ask CNT = 0. -/
theorem spanInv_of_idle {s : State} (hout : ¬ inFrame s) (hcnt : s.cnt = 0) : SpanInv s := by
  have hst : s.syncSt = .seekIdle ∨ s.syncSt = .seekS1 := by
    cases h : s.syncSt <;> simp_all [inFrame]
  exact ⟨by simp [hcnt, hst], by simp [hcnt, hout], fun hin => absurd hin hout⟩

/-- Inside a frame they ask a CNT of 2 to FRAME_LEN - 1 and the sentinel in BUF. -/
theorem spanInv_of_inFrame {s : State} (hin : inFrame s) (hlo : 2 ≤ s.cnt.toNat) (hhi : s.cnt.toNat ≤ s.cfg.frameLen - 1)
    (h0 : bufByte s.buf 0 = s.cfg.sync0) (h1 : bufByte s.buf 1 = s.cfg.sync1) : SpanInv s := by
  have hcnt : s.cnt ≠ 0 := by
    rintro hzero
    simp [hzero] at hlo
  have hst : ¬ (s.syncSt = .seekIdle ∨ s.syncSt = .seekS1) := by
    obtain h | h := hin <;> simp [h]
  exact ⟨iff_of_false hcnt hst, iff_of_true ⟨hlo, hhi⟩ hin, fun _ => ⟨h0, h1⟩⟩

/-- start_frame() meets the span invariants in a BUF of FRAME_LEN bytes (R101). -/
theorem spanInv_startFrame {s : State} (hshape : ShapeInv s) : SpanInv (startFrame s) := by
  obtain ⟨hwf, hbuf, -⟩ := hshape
  obtain ⟨hlen, -⟩ := Config.frameLen_bounds hwf
  have h0 : 0 < s.buf.length := by omega
  have h1 : 1 < s.buf.length := by omega
  refine spanInv_of_inFrame (.inl rfl) (by simp) ?_ ?_ ?_
  · simp only [startFrame_cnt, startFrame_cfg]
    exact Nat.le_sub_one_of_lt hlen
  · simp [bufByte, h0]
  · simp [bufByte, h1]

/-- A byte stored before the last one goes behind the sentinel and keeps the span invariants (R113). -/
theorem spanInv_accumulate {s : State} {v : Byte} (hwf : s.cfg.wf = true) (h : SpanInv s) (hin : inFrame s)
    (hmore : (s.cnt + 1).toNat ≠ s.cfg.frameLen) : SpanInv (setSync .accum (putByte v s)) := by
  obtain ⟨-, hbounds, hsentinel⟩ := h
  obtain ⟨hlo, hhi⟩ := hbounds.mpr hin
  obtain ⟨h0, h1⟩ := hsentinel hin
  obtain ⟨-, hmax⟩ := Config.frameLen_bounds hwf
  have hcnt : (s.cnt + 1).toNat = s.cnt.toNat + 1 := by
    rw [BitVec.toNat_add_of_lt]
    · rfl
    · show s.cnt.toNat + 1 < 256
      omega
  refine spanInv_of_inFrame (.inl rfl) ?_ ?_ ?_ ?_
  · simp only [setSync_cnt, putByte_cnt]
    omega
  · simp only [setSync_cnt, putByte_cnt, setSync_cfg, putByte_cfg]
    omega
  · simpa [bufByte_set_ne v (show 0 ≠ s.cnt.toNat by omega)] using h0
  · simpa [bufByte_set_ne v (show 1 ≠ s.cnt.toNat by omega)] using h1

/-- Every outcome keeps the span invariants. -/
theorem spanInv_of_effect {s t : State} {i : Instr} (hshape : ShapeInv s) (h : SpanInv s) (heff : Effect s i t) :
    SpanInv t := by
  obtain ⟨hwf, -, -⟩ := id hshape
  cases heff with
  | moved st _ _ _ hesc hside =>
    obtain ⟨hidle, hbounds, hsentinel⟩ := h
    by_cases hin : inFrame s
    · obtain ⟨hlo, hhi⟩ := hbounds.mpr hin
      obtain ⟨h0, h1⟩ := hsentinel hin
      exact spanInv_of_inFrame (hside.mpr hin) hlo hhi h0 h1
    · refine spanInv_of_idle (fun hin' => hin (hside.mp hin')) (hidle.mpr ?_)
      cases hst : s.syncSt <;> simp_all [inFrame]
  | started | truncated => exact spanInv_startFrame hshape
  | escapeFailed st _ _ hform =>
    refine spanInv_of_idle ?_ rfl
    obtain ⟨-, rfl⟩ | ⟨-, -, rfl⟩ := hform <;> simp [inFrame]
  | accumulated v _ hin _ hmore => exact spanInv_accumulate (s := countByte s) hwf h hin hmore
  | rejected | emitted | transportFailed => exact spanInv_of_idle (by simp [inFrame]) (by simp)
  | popped => simpa [SpanInv, inFrame] using h
  | closed | wasReset => exact spanInv_of_idle (by simp [inFrame]) rfl

/-- Every outcome leaves in LAST_ERR a code of an error that writes it, or 0 (R28, R200). -/
theorem codeInv_of_effect {s t : State} {i : Instr} (h : CodeInv s) (heff : Effect s i t) : CodeInv t := by
  cases heff with
  | moved | started | accumulated | emitted | popped | closed => simpa [CodeInv] using h
  | truncated | escapeFailed => simp [CodeInv]
  | rejected _ e _ _ _ _ hdec =>
    obtain rfl | rfl | rfl := decodeCandidate_error hdec <;> simp [CodeInv, raiseErr_lastErr, errCode]
  | transportFailed => simp [CodeInv, raiseErr_lastErr, errCode]
  | wasReset => exact ⟨Nat.zero_le 7, Nat.zero_ne_add_one 5⟩

/-- What R96 packs holds a ReadingSet whole, and no divisor is 0. -/
def SetOk (c : Config) (rs : ReadingSet) : Prop :=
  rs.ts < 2 ^ c.tsW ∧ rs.readings.length ≤ 15 ∧ ∀ r ∈ rs.readings, r.div ≠ 0

/-- What the machine invariant asks of one sink: a FIFO within QDEPTH, of sound sets, and counters of CTR_W bits. -/
def SinkOk (c : Config) (snk : Sink) : Prop :=
  snk.q.length ≤ c.qDepth ∧ (∀ rs ∈ snk.q, SetOk c rs) ∧
  snk.enq < 2 ^ c.ctrW ∧ snk.deliv < 2 ^ c.ctrW ∧ snk.sinkErr < 2 ^ c.ctrW ∧ snk.drop < 2 ^ c.ctrW

/-- What the machine invariant asks of the counters of the block (R26). -/
def BlockCountersOk (s : State) : Prop :=
  s.ctrBytes < 2 ^ s.cfg.ctrW ∧ s.ctrCand < 2 ^ s.cfg.ctrW ∧ s.ctrOk < 2 ^ s.cfg.ctrW ∧
  s.ctrCkErr < 2 ^ s.cfg.ctrW ∧ s.ctrUnkDev < 2 ^ s.cfg.ctrW ∧ s.ctrMalf < 2 ^ s.cfg.ctrW ∧
  s.ctrTrunc < 2 ^ s.cfg.ctrW ∧ s.ctrEscErr < 2 ^ s.cfg.ctrW

/-- The machine invariant by its parts, those about a sink gathered sink by sink. -/
theorem inv_iff {s : State} :
    Inv s ↔ ShapeInv s ∧ SpanInv s ∧ CodeInv s ∧ BlockCountersOk s ∧ ∀ snk ∈ s.sinks, SinkOk s.cfg snk := by
  simp only [Inv, QueueInv, SetInv, CounterInv, BlockCountersOk, SinkOk, SetOk]
  constructor
  · rintro ⟨hshape, hspan, hq, hcode, hset, hb, hc, ho, hk, hu, hm, ht, he, hsink⟩
    exact ⟨hshape, hspan, hcode, ⟨hb, hc, ho, hk, hu, hm, ht, he⟩,
      fun snk hmem => ⟨hq snk hmem, hset snk hmem, hsink snk hmem⟩⟩
  · rintro ⟨hshape, hspan, hcode, ⟨hb, hc, ho, hk, hu, hm, ht, he⟩, hsink⟩
    refine ⟨hshape, hspan, fun snk hmem => ?_, hcode, fun snk hmem => ?_, hb, hc, ho, hk, hu, hm, ht, he,
      fun snk hmem => ?_⟩
    all_goals obtain ⟨hq, hset, hcount⟩ := hsink snk hmem
    · exact hq
    · exact hset
    · exact hcount

/-- Counting keeps the width of the block's counters, whichever an outcome counts. -/
theorem blockCountersOk_of_effect {s t : State} {i : Instr} (h : BlockCountersOk s) (heff : Effect s i t) :
    BlockCountersOk t := by
  obtain ⟨hb, hc, ho, hk, hu, hm, ht, he⟩ := h
  have hbump := bump_lt s.cfg
  cases heff with
  | rejected _ e _ _ _ _ hdec =>
    obtain rfl | rfl | rfl := decodeCandidate_error hdec <;> simp_all [BlockCountersOk, raiseErr]
  | wasReset => exact ⟨Nat.two_pow_pos _, Nat.two_pow_pos _, Nat.two_pow_pos _, Nat.two_pow_pos _, Nat.two_pow_pos _,
      Nat.two_pow_pos _, Nat.two_pow_pos _, Nat.two_pow_pos _⟩
  | transportFailed => simp_all [BlockCountersOk, raiseErr]
  | _ => simp_all [BlockCountersOk]

/-- A candidate that decodes gives a sound set: TS is sampled, NF has four bits, and payload_ok refuses a divisor 0. -/
theorem setOk_of_decodeCandidate {c : Config} {buf : List Byte} {ts : Nat} {rs : ReadingSet} (hts : ts < 2 ^ c.tsW)
    (h : decodeCandidate c buf ts = .ok rs) : SetOk c rs := by
  obtain ⟨-, e, -, hpay, rfl⟩ := decodeCandidate_ok h
  refine ⟨hts, ?length, fun r hr => ?div⟩
  case length =>
    have hnf := (hdrNf e.hdr).isLt
    simp only [buildSet, List.length_map, usedDescs, List.length_take]
    omega
  case div =>
    obtain ⟨d, hd, rfl⟩ := List.mem_map.mp hr
    obtain ⟨j, hj, hget⟩ := mem_usedDescs_iff.mp hd
    obtain ⟨-, hdesc⟩ := payloadOk_iff.mp hpay
    obtain ⟨hdiv, -⟩ := descOk_iff.mp (hdesc j d hj hget)
    exact hdiv

/-- A sink at reset is sound. -/
theorem sinkOk_initial (c : Config) : SinkOk c Sink.initial :=
  have hpos := Nat.two_pow_pos c.ctrW
  ⟨Nat.zero_le _, fun _ hmem => absurd hmem List.not_mem_nil, hpos, hpos, hpos, hpos⟩

/-- An offer keeps a sink sound: a full FIFO makes room first (R160). -/
theorem sinkOk_offerTo {c : Config} {rs : ReadingSet} {snk : Sink} (hrs : SetOk c rs) (hdepth : 1 ≤ c.qDepth)
    (h : SinkOk c snk) : SinkOk c (offerTo c rs snk) := by
  obtain ⟨hq, hset, -, hdeliv, hfail, hdrop⟩ := h
  obtain ⟨hfull, hoffer⟩ | ⟨hroom, hoffer⟩ := offerTo_cases c rs snk <;> rw [hoffer]
  · refine ⟨?_, fun rs' hmem => ?_, bump_lt .., hdeliv, hfail, bump_lt ..⟩
    · simp only [List.length_append, List.length_tail, List.length_singleton]
      omega
    · obtain hmem | hmem := List.mem_append.mp hmem
      · exact hset rs' (List.mem_of_mem_tail hmem)
      · rwa [List.mem_singleton.mp hmem]
  · refine ⟨?_, fun rs' hmem => ?_, bump_lt .., hdeliv, hfail, hdrop⟩
    · simp only [List.length_append, List.length_singleton]
      omega
    · obtain hmem | hmem := List.mem_append.mp hmem
      · exact hset rs' hmem
      · rwa [List.mem_singleton.mp hmem]

/-- A POP keeps a sink sound. -/
theorem sinkOk_take {c : Config} {snk : Sink} {take : Sink → Sink} (htake : take = takeDelivered c ∨ take = takeFailed c)
    (h : SinkOk c snk) : SinkOk c (take snk) := by
  obtain ⟨hq, hset, henq, hdeliv, hfail, hdrop⟩ := h
  have hlen : snk.q.tail.length ≤ c.qDepth := by
    rw [List.length_tail]
    omega
  have htail (rs : ReadingSet) (hmem : rs ∈ snk.q.tail) : SetOk c rs := hset rs (List.mem_of_mem_tail hmem)
  obtain rfl | rfl := htake
  · exact ⟨hlen, htail, henq, bump_lt .., hfail, hdrop⟩
  · exact ⟨hlen, htail, henq, hdeliv, bump_lt .., hdrop⟩

/-- Every outcome keeps the sinks sound, under an admitted configuration. -/
theorem sinkOk_of_effect {s t : State} {i : Instr} (hwf : s.cfg.wf = true) (h : ∀ snk ∈ s.sinks, SinkOk s.cfg snk)
    (heff : Effect s i t) : ∀ snk ∈ t.sinks, SinkOk t.cfg snk := by
  cases heff with
  | moved | started | truncated | escapeFailed | accumulated | transportFailed | closed => exact h
  | rejected _ e _ _ _ _ hdec => simpa [raiseErr_sinks_of_candidate (decodeCandidate_error hdec)] using h
  | emitted v rs _ _ _ _ hdec =>
    have hrs : SetOk s.cfg rs := setOk_of_decodeCandidate (Nat.mod_lt _ (Nat.two_pow_pos _)) hdec
    intro snk hmem
    obtain ⟨old, hold, rfl⟩ : ∃ old ∈ s.sinks, offerTo s.cfg rs old = snk := by simpa using hmem
    simpa using sinkOk_offerTo hrs (Config.one_le_qDepth hwf) (h old hold)
  | popped k take hpop =>
    simp only [drainCheck_sinks, drainCheck_cfg, modifySink_sinks, modifySink_cfg]
    exact forall_mem_modify h fun snk hs => sinkOk_take (take_of_pop hpop) (h snk (List.mem_of_getElem? hs))
  | wasReset =>
    intro snk hmem
    rw [List.eq_of_mem_replicate hmem]
    exact sinkOk_initial _

/-- Every outcome of an event keeps the machine invariant. -/
theorem inv_of_effect {s t : State} {i : Instr} (h : Inv s) (heff : Effect s i t) : Inv t := by
  obtain ⟨hshape, hspan, hcode, hblock, hsinks⟩ := inv_iff.mp h
  obtain ⟨hwf, -, -⟩ := id hshape
  exact inv_iff.mpr ⟨shapeInv_of_effect hshape heff, spanInv_of_effect hshape hspan heff, codeInv_of_effect hcode heff,
    blockCountersOk_of_effect hblock heff, sinkOk_of_effect hwf hsinks heff⟩

/-- A step keeps the machine invariant. -/
theorem inv_step {s t : State} (h : Inv s) (hstep : step s = .next t) : Inv t := by
  obtain ⟨-, o, rest, i, -, -, -, hexec⟩ := step_eq_next hstep
  exact inv_of_effect (s := takeOffer o rest s) h (effect_of_exec hexec)

/-- Settles O38: the parts of the invariant are kept outcome by outcome. -/
theorem stepKeepsInv : Obligations.StepKeepsInv := by
  unfold Obligations.StepKeepsInv
  exact fun s t => inv_step

/-- Settles O37: the values of R35 under the default configuration. -/
theorem powerOnValues : Obligations.PowerOnValues := by
  unfold Obligations.PowerOnValues
  exact ⟨rfl, rfl, rfl, rfl, rfl, rfl, rfl, rfl, rfl, rfl, rfl, rfl, rfl, rfl⟩

/-- The power-on state of an admitted configuration is idle, with every counter 0 and every FIFO empty. -/
theorem powerOn_meets_invariants {c : Config} (hwf : c.wf = true) :
    Inv (State.powerOn c) ∧ Accounting (State.powerOn c) ∧ Quiet (State.powerOn c) := by
  have hpos := Nat.two_pow_pos c.ctrW
  refine ⟨inv_iff.mpr ⟨⟨hwf, List.length_replicate, List.length_replicate⟩, ?span,
    ⟨Nat.zero_le 7, Nat.zero_ne_add_one 5⟩, ?counters, ?sinks⟩,
    accounting_iff.mpr ⟨rfl, fun snk hmem => ?balance⟩, quiet_of_run rfl⟩
  case span => exact spanInv_of_idle (by simp [inFrame, State.powerOn]) rfl
  case counters => exact ⟨hpos, hpos, hpos, hpos, hpos, hpos, hpos, hpos⟩
  case sinks =>
    intro snk hmem
    rw [List.eq_of_mem_replicate hmem]
    exact sinkOk_initial c
  case balance =>
    rw [List.eq_of_mem_replicate hmem]
    exact ⟨rfl, rfl⟩

/-- Settles O39: State.reset is the power-on state of the default configuration, which is admitted. -/
theorem powerOnMeetsInvariants : Obligations.PowerOnMeetsInvariants := by
  unfold Obligations.PowerOnMeetsInvariants
  exact ⟨powerOn_meets_invariants (by decide), fun c => powerOn_meets_invariants⟩

end Sys2Proof.Machine
end

section
/-! The errors of a step (60_exceptions.md sections 3 and 4): at most one shows, and one of a span reaches no sink. -/
namespace Sys2Proof.Machine

/-- The errors of R200 that show between two states, in the order of their codes. -/
def errorsShown (s t : State) : List Bool :=
  [decide (t.ctrCkErr ≠ s.ctrCkErr), decide (t.ctrUnkDev ≠ s.ctrUnkDev), decide (t.ctrMalf ≠ s.ctrMalf),
    decide (t.ctrTrunc ≠ s.ctrTrunc), decide (t.ctrEscErr ≠ s.ctrEscErr),
    decide (t.sinks.map Sink.sinkErr ≠ s.sinks.map Sink.sinkErr), decide (t.mode = .fatal ∧ s.mode ≠ .fatal)]

/-- The drain check does not enter FATAL (R163). -/
theorem drainCheck_mode_ne_fatal {s : State} (h : s.mode ≠ .fatal) : (drainCheck s).mode ≠ .fatal := by
  rw [drainCheck_mode]
  split
  · decide
  · exact h

/-- SHUTDOWN does not enter FATAL (R181). -/
theorem closeMode_mode_ne_fatal (s : State) : (closeMode s).mode ≠ .fatal := by
  rw [closeMode_mode]
  split <;> decide

/-- At most one of the errors shows after an outcome that is not RESET: each outcome touches at most one of their places. -/
theorem count_errorsShown_le_one {s t : State} {i : Instr} (hne : i ≠ .reset) (heff : Effect s i t) :
    (errorsShown s t).count true ≤ 1 := by
  have one (b : Bool) : (if b then 1 else 0) ≤ 1 := by cases b <;> decide
  cases heff with
  | moved | started | accumulated => simp [errorsShown]
  | emitted => simp [errorsShown, Function.comp_def]
  | truncated | escapeFailed =>
    simp only [errorsShown, List.count_cons]
    simpa using one _
  | rejected _ e _ _ _ _ hdec =>
    obtain rfl | rfl | rfl := decodeCandidate_error hdec
    all_goals
      simp only [errorsShown, List.count_cons, raiseErr]
      simpa using one _
  | popped k take =>
    have hmode : ¬ ((drainCheck (modifySink k.toNat take s)).mode = .fatal ∧ s.mode ≠ .fatal) :=
      fun ⟨hfatal, hnot⟩ => drainCheck_mode_ne_fatal (s := modifySink k.toNat take s) hnot hfatal
    by_cases hcounts : (s.sinks.modify k.toNat take).map Sink.sinkErr = s.sinks.map Sink.sinkErr
    · simp [errorsShown, hcounts, hmode]
    · simp [errorsShown, hcounts, hmode]
  | transportFailed hrun => simp [errorsShown, raiseErr, hrun]
  | closed => simp [errorsShown, closeMode_mode_ne_fatal, -closeMode_mode]
  | wasReset => exact absurd rfl hne

/-- The failure counts of the sinks change by a POP only, and then at the one sink it takes from. -/
theorem sinkErr_of_effect {s t : State} {i : Instr} (hne : i ≠ .reset) (heff : Effect s i t) :
    ∃ k, ∀ j : Nat, j ≠ k → t.sinks[j]?.map Sink.sinkErr = s.sinks[j]?.map Sink.sinkErr := by
  cases heff with
  | popped k take => exact ⟨k.toNat, fun j hj => by simp [hj.symm]⟩
  | moved | started | truncated | escapeFailed | accumulated | closed => exact ⟨0, fun j _ => by simp⟩
  | transportFailed => exact ⟨0, fun j _ => by simp [raiseErr]⟩
  | rejected _ e _ _ _ _ hdec =>
    exact ⟨0, fun j _ => by simp [raiseErr_sinks_of_candidate (decodeCandidate_error hdec)]⟩
  | emitted => exact ⟨0, fun j _ => by simp [Function.comp_def]⟩
  | wasReset => exact absurd rfl hne

/-- Settles O44: an outcome touches at most one place where an error shows, and a POP one sink. -/
theorem atMostOneErrorPerStep : Obligations.AtMostOneErrorPerStep := by
  unfold Obligations.AtMostOneErrorPerStep
  intro s t i hne h
  refine ⟨count_errorsShown_le_one hne (effect_of_exec h), fun j k hjk hj => ?_⟩
  obtain ⟨k', hothers⟩ := sinkErr_of_effect hne (effect_of_exec h)
  obtain rfl : j = k' := by
    by_contra hjk'
    exact hj (hothers j hjk')
  exact hothers k hjk.ne'

/-- Settles O45: of the outcomes other than RESET only the failed spans count such an error, and they write nothing else than its
code and the span. -/
theorem failedSpansReachNoSink : Obligations.FailedSpansReachNoSink := by
  unfold Obligations.FailedSpansReachNoSink
  intro s t i hne h hcounted
  cases effect_of_exec h with
  | truncated | escapeFailed => simp
  | rejected _ e _ _ _ _ hdec =>
    obtain rfl | rfl | rfl := decodeCandidate_error hdec <;> simp [raiseErr, errCode]
  | moved | started | accumulated | emitted | popped | closed => simp at hcounted
  | transportFailed => simp [raiseErr] at hcounted
  | wasReset => exact absurd rfl hne

end Sys2Proof.Machine
end

section
/-! The set a candidate gives (41_decoder.md sections 3 to 5): its keys and readings, its TS, and what a corrupted byte does to the
checksum. -/
namespace Sys2Proof.Machine

/-- A key that fits the entry that matches it fits the set's field: no bit is lost (R134, R140). -/
theorem keys_of_lookupEntry {c : Config} {src cmd : Nat} {e : Entry} (h : lookupEntry c src cmd = some e) :
    e ∈ c.table ∧ hdrValid e.hdr = true ∧ hdrSrc e.hdr = BitVec.ofNat 8 src ∧ hdrCmd e.hdr = BitVec.ofNat 16 cmd ∧
      (hdrSrc e.hdr).toNat = src ∧ (hdrCmd e.hdr).toNat = cmd := by
  obtain ⟨hvalid, hsrc, hcmd⟩ := entryMatches_iff.mp (List.find?_some h)
  refine ⟨List.mem_of_find?_eq_some h, hvalid, ?_, ?_, hsrc, hcmd⟩
  · rw [← hsrc, BitVec.ofNat_toNat, BitVec.setWidth_eq]
    rfl
  · rw [← hcmd, BitVec.ofNat_toNat, BitVec.setWidth_eq]
    rfl

/-- The readings of a set are the used descriptors', at most NF of them, and NF when the entry has them (R95, R140). -/
theorem usedDescs_length_le (e : Entry) : (usedDescs e).length ≤ (hdrNf e.hdr).toNat := by
  rw [usedDescs, List.length_take]
  exact Nat.min_le_left _ _

/-- An entry of an admitted configuration uses NF descriptors (R95). -/
theorem usedDescs_length {c : Config} {e : Entry} (hwf : c.wf = true) (he : e ∈ c.table) :
    (usedDescs e).length = (hdrNf e.hdr).toNat := by
  rw [usedDescs_eq_map_getD hwf he, List.length_map, List.length_range]

/-- KIND = 1 is PumpSpeed and nothing else is (R97). -/
theorem quantityOf_eq_pumpSpeed_iff {b : Bool} : quantityOf b = .pumpSpeed ↔ b = true := by
  cases b <;> decide

/-- Settles O19: the four outcomes are the `complete_of_` lemmas; the keys of the entry looked up are the set's, and reading j is
the reading of descriptor j. -/
theorem setKeysAreExact : Obligations.SetKeysAreExact := by
  unfold Obligations.SetKeysAreExact
  refine ⟨fun s => ⟨complete_of_checksum_bad, complete_of_lookup_none, fun e hck hlook =>
    ⟨complete_of_payload_bad hck hlook, complete_of_payload_ok hck hlook⟩⟩, fun c buf ts rs h => ?set⟩
  case set =>
    obtain ⟨-, e, hlook, -, rfl⟩ := decodeCandidate_ok h
    obtain ⟨hmem, hvalid, hsrc, hcmd, hsrcNat, hcmdNat⟩ := keys_of_lookupEntry hlook
    have hsrcNum : (buildSet c e buf ts).src.toNat = srcOf c buf := (congrArg BitVec.toNat hsrc).symm.trans hsrcNat
    have hcmdNum : (buildSet c e buf ts).cmd.toNat = cmdOf c buf := (congrArg BitVec.toNat hcmd).symm.trans hcmdNat
    have hlen : (buildSet c e buf ts).readings.length = (usedDescs e).length := List.length_map _
    refine ⟨hsrcNum, hcmdNum, rfl, e, hmem, hlook, hvalid, hsrc, hcmd, hlen ▸ usedDescs_length_le e,
      fun hwf => hlen ▸ usedDescs_length hwf hmem, fun j d hj hd => ?reading⟩
    case reading =>
      have hused : (usedDescs e)[j]? = some d := by simp [usedDescs, hj, hd]
      exact ⟨readingOf (payload c buf) d, by simp [buildSet, hused], rfl, rfl, rfl, quantityOf_eq_pumpSpeed_iff, rfl⟩

/-- Settles O53: TS takes no part in the checks, and the set carries it in its TS field alone (R142). -/
theorem decodingIsIdempotent : Obligations.DecodingIsIdempotent := by
  unfold Obligations.DecodingIsIdempotent
  intro c buf ts ts' rs h
  obtain ⟨hck, e, hlook, hpay, rfl⟩ := decodeCandidate_ok h
  exact ⟨rfl, by simp [decodeCandidate, hck, hlook, hpay, buildSet]⟩

/-- Either algorithm tells apart two lists of bytes that differ in one (R132, R133): both operations cancel. -/
theorem checksum_set_ne {c : Config} {bs : List Byte} {j : Nat} {v : Byte} (hj : j < bs.length) (hv : v ≠ bs[j]) :
    checksum c (bs.set j v) ≠ checksum c bs := by
  induction bs generalizing j with
  | nil => contradiction
  | cons b bs ih =>
    cases j with
    | zero =>
      cases halg : c.ckAlg
      · simpa [checksum, halg, ckAdd8_cons, BitVec.add_left_inj] using hv
      · simpa [checksum, halg, ckXor8_cons, BitVec.xor_left_inj] using hv
    | succ j =>
      have hrest := ih (Nat.lt_of_succ_lt_succ hj) hv
      cases halg : c.ckAlg
      · simpa [checksum, halg, ckAdd8_cons, BitVec.add_right_inj] using hrest
      · simpa [checksum, halg, ckXor8_cons, BitVec.xor_right_inj] using hrest

/-- A candidate with one byte changed, the checksum byte included, no longer matches its checksum (R143). -/
theorem checksumOk_set {c : Config} {buf : List Byte} {j : Nat} {v : Byte} (hlen : buf.length = c.frameLen)
    (hok : checksumOk c buf = true) (hj : j < c.frameLen) (hv : v ≠ bufByte buf j) :
    checksumOk c (buf.set j v) = false := by
  rw [checksumOk_iff] at hok
  rw [Bool.eq_false_iff, Ne, checksumOk_iff]
  by_cases hlast : j = c.frameLen - 1
  · have hbyte : bufByte (buf.set j v) (c.frameLen - 1) = v := by simp [bufByte, ← hlast, hlen, hj]
    rw [hbyte, List.take_set_of_le (by omega), hok, ← hlast]
    exact hv.symm
  · have hbyte : (buf.take (c.frameLen - 1))[j]'(by simp; omega) = bufByte buf j := by
      simp [bufByte, hlen, hj]
    rw [bufByte_set_ne v (Ne.symm hlast), ← hok, List.take_set]
    exact checksum_set_ne _ (hbyte ▸ hv)

/-- Settles O54: the completion tests the checksum first (R130). -/
theorem singleByteCorruptionIsDetected : Obligations.SingleByteCorruptionIsDetected := by
  unfold Obligations.SingleByteCorruptionIsDetected
  intro c buf j v ts hlen hok hj hv
  simp [decodeCandidate, checksumOk_set hlen hok hj hv]

/-- Settles O52: the frame is stuffed and decoded under the default configuration; TS is carried along. -/
theorem referenceFrame : Obligations.ReferenceFrame := by
  unfold Obligations.ReferenceFrame
  exact ⟨rfl, fun ts => rfl⟩

end Sys2Proof.Machine
end

section
/-! Isolation (42_dispatcher.md section 3, R164): the effect of a BYTE form maps one function over the sinks and reads none
of them. -/
namespace Sys2Proof.Machine

/-- s with other sinks. -/
def withSinks (l : List Sink) (s : State) : State := { s with sinks := l }

/-- A completion reads no sink: it makes the same of the candidate, and changes each sink by one function (R142). -/
theorem complete_withSinks (s : State) :
    ∃ g : Sink → Sink, ∀ l, complete (withSinks l s) = withSinks (l.map g) (complete s) := by
  cases hdec : decodeCandidate s.cfg s.buf (sampleTs s) with
  | error e =>
    refine ⟨id, fun l => ?_⟩
    have hdec' : decodeCandidate (withSinks l s).cfg (withSinks l s).buf (sampleTs (withSinks l s)) = .error e := hdec
    rw [complete, complete, hdec, hdec', List.map_id]
    obtain rfl | rfl | rfl := decodeCandidate_error hdec <;> rfl
  | ok rs =>
    refine ⟨offerTo s.cfg rs, fun l => ?_⟩
    have hdec' : decodeCandidate (withSinks l s).cfg (withSinks l s).buf (sampleTs (withSinks l s)) = .ok rs := hdec
    rw [complete, complete, hdec, hdec']
    rfl

/-- Storing a byte reads no sink. -/
theorem store_withSinks (v : Byte) (s : State) :
    ∃ g : Sink → Sink, ∀ l, store v (withSinks l s) = withSinks (l.map g) (store v s) := by
  obtain ⟨hlast, hstore⟩ | ⟨hmore, hstore⟩ := store_cases v s
  · obtain ⟨g, hg⟩ := complete_withSinks (putByte v s)
    refine ⟨g, fun l => ?_⟩
    have hstore' : store v (withSinks l s) = setSync .seekIdle (discard (complete (withSinks l (putByte v s)))) :=
      if_pos hlast
    rw [hstore', hg, hstore]
    rfl
  · refine ⟨id, fun l => ?_⟩
    have hstore' : store v (withSinks l s) = setSync .accum (withSinks l (putByte v s)) := if_neg hmore
    rw [hstore', hstore, List.map_id]
    rfl

/-- The effect of a BYTE form reads no sink. -/
theorem byteEffect_withSinks {i : Instr} (hb : i.isByte = true) (c : Config) (s : State) :
    ∃ g : Sink → Sink, ∀ l, byteEffect c i (withSinks l s) = withSinks (l.map g) (byteEffect c i s) := by
  cases i with
  | accumLiteral b => exact store_withSinks b s
  | accEscEscLit => exact store_withSinks c.sync0 s
  | popOk _ | popErr _ | xportErr | shutdown | reset => contradiction
  | _ => exact ⟨id, fun l => by rw [List.map_id]; rfl⟩

/-- Two states agree but for sink k exactly when one is the other with sinks that agree but for sink k. -/
theorem eq_withSinks_of_agreeButSink {k : Nat} {s s' : State} (h : AgreeButSink k s s') :
    s' = withSinks s'.sinks s ∧ ∀ j, j ≠ k → s.sinks[j]? = s'.sinks[j]? := by
  obtain ⟨hrest, hsinks⟩ := h
  have hsame : withSinks s'.sinks (withSinks [] s') = withSinks s'.sinks (withSinks [] s) :=
    congrArg (withSinks s'.sinks) hrest.symm
  exact ⟨hsame, hsinks⟩

/-- Settles O55: the two states are one state with two lists of sinks, which the form maps by the same function. -/
theorem sinksDoNotDisturbBytes : Obligations.SinksDoNotDisturbBytes := by
  unfold Obligations.SinksDoNotDisturbBytes
  intro s s' t i k hb hagree h
  obtain ⟨hs', hsinks⟩ := eq_withSinks_of_agreeButSink hagree
  obtain ⟨hm, hform, hwf, rfl⟩ := (exec_byte_eq_next hb).mp h
  obtain ⟨g, hg⟩ := byteEffect_withSinks hb s.cfg (countByte s)
  have hself : (byteEffect s.cfg i (countByte s)).sinks = s.sinks.map g := congrArg State.sinks (hg s.sinks)
  have hexec : exec i s' = .next (withSinks (s'.sinks.map g) (byteEffect s.cfg i (countByte s))) := by
    rw [hs', ← hg]
    exact exec_byte_of_run hm hform hwf
  refine ⟨_, hexec, rfl, fun j hj => ?_⟩
  rw [hself]
  simp [withSinks, hsinks j hj]

end Sys2Proof.Machine
end

section
/-! What a run produces, hands over and loses at one sink (20_memory.md R59, 42_dispatcher.md R165): no step makes a set up, and none
goes missing uncounted. -/
namespace Sys2Proof.Machine

/-- A step is the outcome of the instruction it fetches, on the state that has taken the offer. -/
theorem effect_of_step {s t : State} (h : step s = .next t) :
    s.cfg.wf = true ∧ ∃ i o rest, fetch s = .run i (takeOffer o rest s) ∧ Effect (takeOffer o rest s) i t := by
  obtain ⟨hwf, o, rest, i, -, -, hfetch, hexec⟩ := step_eq_next h
  exact ⟨hwf, i, o, rest, hfetch, effect_of_exec hexec⟩

/-- The FIFO of a sink that is changed. -/
theorem queue_modifySink {s : State} {k j : Nat} {f : Sink → Sink} (hf : ∀ snk, (f snk).q = snk.q.tail) :
    (modifySink k f s).queue j = if k = j then (s.queue j).tail else s.queue j := by
  simp only [State.queue, modifySink_sinks, List.getElem?_modify]
  cases s.sinks[j]? with
  | none => simp
  | some snk => by_cases h : k = j <;> simp [h, hf]

/-- Taking an offer touches no FIFO. -/
@[simp] theorem takeOffer_queue (o : Offer) (rest : List Offer) (s : State) (k : Nat) :
    (takeOffer o rest s).queue k = s.queue k := rfl

/-- A FIFO is a function of the sinks. -/
theorem queue_congr {s t : State} (h : t.sinks = s.sinks) (k : Nat) : t.queue k = s.queue k := by
  rw [State.queue, State.queue, h]

section Fetched
variable {s t : State} {i : Instr} {u : State} {k : Nat}

/-- An instruction that carries no logical byte produces nothing. -/
theorem producedBy_of_storedByte_none (hfetch : fetch s = .run i u) (hv : storedByte u.cfg i = none) :
    producedBy s = [] := by
  simp [producedBy, hfetch, hv]

/-- A logical byte that is not the last of its frame produces nothing. -/
theorem producedBy_of_more {v : Byte} (hfetch : fetch s = .run i u) (hv : storedByte u.cfg i = some v)
    (hmore : (u.cnt + 1).toNat ≠ u.cfg.frameLen) : producedBy s = [] := by
  simp only [producedBy, hfetch, hv, putByte_cnt, hmore, if_false]

/-- A candidate that fails produces nothing. -/
theorem producedBy_of_error {v : Byte} {e : Err} (hfetch : fetch s = .run i u) (hv : storedByte u.cfg i = some v)
    (hdec : decodeCandidate u.cfg (putByte v u).buf (sampleTs u) = .error e) : producedBy s = [] := by
  simp only [producedBy, hfetch, hv, hdec, ite_self]

/-- A candidate that decodes produces its set. -/
theorem producedBy_of_ok {v : Byte} {rs : ReadingSet} (hfetch : fetch s = .run i u) (hv : storedByte u.cfg i = some v)
    (hlast : (u.cnt + 1).toNat = u.cfg.frameLen)
    (hdec : decodeCandidate u.cfg (putByte v u).buf (sampleTs u) = .ok rs) : producedBy s = [rs] := by
  simp only [producedBy, hfetch, hv, hdec, putByte_cnt, hlast, if_true]

/-- Only a POP of sink k hands it something. -/
theorem takenBy_of_not_pop (hfetch : fetch s = .run i u) (hok : ∀ j, i ≠ .popOk j) (herr : ∀ j, i ≠ .popErr j) :
    takenBy k s = [] := by
  cases i <;> simp_all [takenBy]

/-- A POP of sink j hands it the head of its FIFO, and the others nothing. -/
theorem takenBy_of_pop {j : BitVec 4} (hfetch : fetch s = .run i u) (hpop : i = .popOk j ∨ i = .popErr j) :
    takenBy k s = if j.toNat = k then (u.queue k).take 1 else [] := by
  obtain rfl | rfl := hpop <;> simp [takenBy, hfetch]

/-- RESET loses what is queued (R232). -/
theorem lostBy_of_reset (hfetch : fetch s = .run .reset u) : lostBy k s = u.queue k := by
  simp [lostBy, hfetch]

/-- Any other event that produces nothing loses nothing. -/
theorem lostBy_of_not_produced (hfetch : fetch s = .run i u) (hne : i ≠ .reset) (hprod : producedBy s = []) :
    lostBy k s = [] := by
  cases i <;> simp_all [lostBy]

/-- A set produced loses the oldest entry of a full FIFO (R160). -/
theorem lostBy_of_produced (hfetch : fetch s = .run i u) (hne : i ≠ .reset) (hprod : producedBy s ≠ []) :
    lostBy k s = if (s.queue k).length = s.cfg.qDepth then (s.queue k).take 1 else [] := by
  cases i <;> simp_all [lostBy]

end Fetched

/-- A BYTE form is neither a POP nor RESET. -/
theorem ne_pop_of_isByte {i : Instr} (hb : i.isByte = true) :
    (∀ j, i ≠ .popOk j) ∧ (∀ j, i ≠ .popErr j) ∧ i ≠ .reset := by
  cases i with
  | popOk _ | popErr _ | reset => contradiction
  | _ => simp

/-- An instruction that stores a logical byte is a BYTE form. -/
theorem isByte_of_storedByte {c : Config} {i : Instr} {v : Byte} (hv : storedByte c i = some v) : i.isByte = true := by
  cases i with
  | accumLiteral _ | accEscEscLit => rfl
  | _ => contradiction

/-- Conservation at a sink that exists: what it takes, loses and keeps in a step is what it had and what was produced, in
order. -/
theorem step_conserves {s t : State} {k : Nat} (hk : k < s.sinks.length) (h : step s = .next t) :
    takenBy k s ++ lostBy k s ++ t.queue k = s.queue k ++ producedBy s := by
  obtain ⟨-, i, o, rest, hfetch, heff⟩ := effect_of_step h
  have stays (hi : (∀ j, i ≠ .popOk j) ∧ (∀ j, i ≠ .popErr j) ∧ i ≠ .reset) (hprod : producedBy s = [])
      (hsinks : t.sinks = s.sinks) : takenBy k s ++ lostBy k s ++ t.queue k = s.queue k ++ producedBy s := by
    obtain ⟨hok, herr, hne⟩ := hi
    rw [takenBy_of_not_pop hfetch hok herr, lostBy_of_not_produced hfetch hne hprod, hprod, queue_congr hsinks]
    simp
  cases heff with
  | moved _ _ hb hv => exact stays (ne_pop_of_isByte hb) (producedBy_of_storedByte_none hfetch hv) rfl
  | started | truncated | closed => exact stays (by simp) (producedBy_of_storedByte_none hfetch rfl) (by simp)
  | transportFailed => exact stays (by simp) (producedBy_of_storedByte_none hfetch rfl) rfl
  | escapeFailed _ _ _ hform =>
    obtain ⟨rfl, -⟩ | ⟨b, rfl, -⟩ := hform
    · exact stays (by simp) (producedBy_of_storedByte_none hfetch rfl) rfl
    · exact stays (by simp) (producedBy_of_storedByte_none hfetch rfl) rfl
  | accumulated v _ _ hv hmore =>
    exact stays (ne_pop_of_isByte (isByte_of_storedByte hv)) (producedBy_of_more hfetch hv hmore) (by simp)
  | rejected v e _ _ hv _ hdec =>
    exact stays (ne_pop_of_isByte (isByte_of_storedByte hv)) (producedBy_of_error hfetch hv hdec)
      (by simp [raiseErr_sinks_of_candidate (decodeCandidate_error hdec)])
  | emitted v rs _ _ hv hlast hdec =>
    obtain ⟨hok, herr, hne⟩ := ne_pop_of_isByte (isByte_of_storedByte hv)
    have hprod := producedBy_of_ok hfetch hv hlast hdec
    have hqueue := (queue_congr (s := dispatch rs s) (t := setSync .seekIdle (discard (emit rs (countCandidate
      (putByte v (countByte (takeOffer o rest s))))))) (by simp) k).trans (queue_dispatch hk)
    rw [takenBy_of_not_pop hfetch hok herr, lostBy_of_produced hfetch hne (by simp [hprod]), hprod, hqueue]
    by_cases hfull : (s.queue k).length = s.cfg.qDepth
    · simp [hfull, ← List.drop_one, ← List.append_assoc]
    · simp [hfull]
  | popped j take hpop =>
    have hprod : producedBy s = [] := by
      obtain ⟨rfl, -⟩ | ⟨rfl, -⟩ := hpop
      · exact producedBy_of_storedByte_none hfetch rfl
      · exact producedBy_of_storedByte_none hfetch rfl
    have hne : i ≠ .reset := by obtain ⟨rfl, -⟩ | ⟨rfl, -⟩ := hpop <;> simp
    have htail (snk : Sink) : (take snk).q = snk.q.tail := (take_keeps (take_of_pop hpop) snk).1
    have hqueue := (queue_congr (drainCheck_sinks (modifySink j.toNat take (takeOffer o rest s))) k).trans
      (queue_modifySink htail)
    rw [takenBy_of_pop hfetch (hpop.imp And.left And.left), lostBy_of_not_produced hfetch hne hprod, hprod, hqueue,
      takeOffer_queue]
    by_cases hj : j.toNat = k
    · simp [hj, ← List.drop_one]
    · simp [hj]
  | wasReset =>
    have hqueue : (resetState (takeOffer o rest s)).queue k = [] :=
      queue_eq_nil_of_empty (fun snk hmem => by rw [List.eq_of_mem_replicate hmem]; rfl) k
    rw [takenBy_of_not_pop hfetch (by simp) (by simp), lostBy_of_reset hfetch,
      producedBy_of_storedByte_none hfetch rfl, hqueue]
    simp

/-- A step keeps the configuration. -/
theorem step_cfg {s t : State} (h : step s = .next t) : t.cfg = s.cfg := by
  obtain ⟨-, o, rest, i, -, -, -, hexec⟩ := step_eq_next h
  exact configurationIsConstant (takeOffer o rest s) t i hexec

/-- An index that no sink has shows an empty FIFO. -/
theorem queue_of_length_le {s : State} {k : Nat} (h : s.sinks.length ≤ k) : s.queue k = [] := by
  simp [State.queue, h]

/-- An index that no sink has is handed nothing, and shows an empty FIFO after the step: RESET may add the sink, but
empty. -/
theorem step_of_no_sink {s t : State} {k : Nat} (hk : s.sinks.length ≤ k) (h : step s = .next t) :
    takenBy k s = [] ∧ t.queue k = [] := by
  obtain ⟨-, i, o, rest, hfetch, heff⟩ := effect_of_step h
  refine ⟨?taken, ?queue⟩
  case taken =>
    by_cases hpop : ∃ j, i = .popOk j ∨ i = .popErr j
    · obtain ⟨j, hpop⟩ := hpop
      rw [takenBy_of_pop hfetch hpop, takeOffer_queue, queue_of_length_le hk, List.take_nil, ite_self]
    · push Not at hpop
      exact takenBy_of_not_pop hfetch (fun j => (hpop j).1) fun j => (hpop j).2
  case queue =>
    cases heff with
    | wasReset => exact queue_eq_nil_of_empty (fun snk hmem => by rw [List.eq_of_mem_replicate hmem]; rfl) k
    | rejected _ e _ _ _ _ hdec =>
      exact queue_of_length_le (by simpa [raiseErr_sinks_of_candidate (decodeCandidate_error hdec)] using hk)
    | transportFailed => exact queue_of_length_le hk
    | _ => exact queue_of_length_le (by simpa using hk)

/-- In a step no sink takes or keeps what it did not have and was not produced, and in order (R59). -/
theorem step_sublist {s t : State} (k : Nat) (h : step s = .next t) :
    (takenBy k s ++ t.queue k).Sublist (s.queue k ++ producedBy s) := by
  by_cases hk : k < s.sinks.length
  · rw [← step_conserves hk h]
    exact (List.sublist_append_left ..).append_right _
  · obtain ⟨htaken, hqueue⟩ := step_of_no_sink (not_lt.mp hk) h
    rw [htaken, hqueue]
    exact List.nil_sublist _

/-- A trace of n + 1 steps is a step and a trace of the n after it. -/
theorem runTrace_succ {k n : Nat} {s : State} {tr : Trace} (h : runTrace k (n + 1) s = some tr) :
    ∃ t tr', step s = .next t ∧ runTrace k n t = some tr' ∧
      tr = ⟨takenBy k s ++ tr'.taken, lostBy k s ++ tr'.lost, producedBy s ++ tr'.produced, tr'.final⟩ := by
  rw [runTrace] at h
  cases hstep : step s with
  | next t =>
    rw [hstep] at h
    obtain ⟨tr', htr', rfl⟩ := Option.map_eq_some_iff.mp h
    exact ⟨t, tr', rfl, htr', rfl⟩
  | fault _ => simp [hstep] at h
  | refused _ => simp [hstep] at h

/-- Settles O56: by induction on the steps, each as `step_sublist` says. -/
theorem sinksReceiveInOrder : Obligations.SinksReceiveInOrder := by
  unfold Obligations.SinksReceiveInOrder
  intro k n
  induction n with
  | zero =>
    intro s tr h
    obtain rfl := Option.some.inj h
    simp
  | succ n ih =>
    intro s tr h
    obtain ⟨t, tr', hstep, htr', rfl⟩ := runTrace_succ h
    have hrest := (ih t tr' htr').append_left (takenBy k s)
    have hfirst := (step_sublist k hstep).append_right tr'.produced
    simpa [List.append_assoc] using hrest.trans (by simpa [List.append_assoc] using hfirst)

/-- Settles O57: by induction on the steps; where nothing is lost, `step_conserves` is an equation of what was taken, kept, there
and produced, and the machine invariant gives the sink. -/
theorem lossFreeSinksReceiveEverything : Obligations.LossFreeSinksReceiveEverything := by
  unfold Obligations.LossFreeSinksReceiveEverything
  intro k n
  induction n with
  | zero =>
    intro s tr _ _ h _
    obtain rfl := Option.some.inj h
    simp
  | succ n ih =>
    intro s tr hinv hk h hlost
    obtain ⟨t, tr', hstep, htr', rfl⟩ := runTrace_succ h
    obtain ⟨hlost1, hlost'⟩ := List.append_eq_nil_iff.mp hlost
    obtain ⟨⟨-, -, hsinks⟩, -⟩ := id hinv
    have hfirst := step_conserves (hsinks ▸ hk) hstep
    have hrest := ih t tr' (inv_step hinv hstep) (step_cfg hstep ▸ hk) htr' hlost'
    rw [hlost1, List.append_nil] at hfirst
    calc takenBy k s ++ tr'.taken ++ tr'.final.queue k
        = takenBy k s ++ t.queue k ++ tr'.produced := by rw [List.append_assoc, hrest, List.append_assoc]
      _ = s.queue k ++ (producedBy s ++ tr'.produced) := by rw [hfirst, List.append_assoc]

end Sys2Proof.Machine
end

section
/-! The wire bytes of a frame (30_encoding.md section 2): their number, and where the sentinel can stand among them. -/
namespace Sys2Proof.Machine

/-- Stuffing goes byte by byte. -/
theorem stuffBody_cons (c : Config) (b : Byte) (bs : List Byte) :
    stuffBody c (b :: bs) = stuffBody c [b] ++ stuffBody c bs := by
  by_cases h : b = c.sync0 <;> simp [stuffBody, h]

/-- Stuffing adds one byte per SYNC0 (R76). -/
theorem stuffBody_length (c : Config) (bs : List Byte) :
    (stuffBody c bs).length = bs.length + bs.count c.sync0 := by
  induction bs with
  | nil => rfl
  | cons b bs ih =>
    by_cases h : b = c.sync0
    · simp [stuffBody, h, ih]
      omega
    · simp [stuffBody, h, ih]
      omega

/-- In a stuffed body every SYNC0 is followed by ESC_LIT (R75). -/
theorem stuffBody_escLit_after_sync0 {c : Config} (h0e : c.sync0 ≠ c.escLit) {bs : List Byte} {j : Nat}
    (h : (stuffBody c bs)[j]? = some c.sync0) : (stuffBody c bs)[j + 1]? = some c.escLit := by
  induction bs generalizing j with
  | nil => simp [stuffBody] at h
  | cons b bs ih =>
    by_cases hb : b = c.sync0
    · simp only [stuffBody, hb, if_true] at h ⊢
      match j with
      | 0 => rfl
      | 1 => exact absurd (Option.some.inj h).symm h0e
      | j + 2 => exact ih h
    · simp only [stuffBody, hb, if_false] at h ⊢
      match j with
      | 0 => exact absurd (Option.some.inj h) hb
      | j + 1 => exact ih h

/-- A frame is the sentinel and a body. -/
theorem IsFrame.eq_cons_cons {c : Config} {l : List Byte} (h : IsFrame c l) : l = c.sync0 :: c.sync1 :: l.drop 2 := by
  obtain ⟨-, htake⟩ := h
  calc l = l.take 2 ++ l.drop 2 := (List.take_append_drop 2 l).symm
    _ = c.sync0 :: c.sync1 :: l.drop 2 := by rw [htake]; rfl

/-- The wire bytes of a frame are the sentinel and the stuffed body (R75). -/
theorem wireOf_of_isFrame {c : Config} {l : List Byte} (h : IsFrame c l) :
    wireOf c l = c.sync0 :: c.sync1 :: stuffBody c (l.drop 2) := by
  obtain ⟨-, htake⟩ := h
  rw [wireOf, htake]
  rfl

/-- Settles O50: the body has FRAME_LEN - 2 bytes, of which stuffing doubles the SYNC0 ones. -/
theorem wireLength : Obligations.WireLength := by
  unfold Obligations.WireLength
  intro c l h
  obtain ⟨hlogical, -⟩ := id h
  have hbody : (l.drop 2).length = c.frameLen - 2 := by rw [List.length_drop, hlogical]
  have hcount := List.count_le_length (a := c.sync0) (l := l.drop 2)
  have hlen : 2 ≤ c.frameLen := by
    unfold Config.frameLen
    omega
  rw [wireOf_of_isFrame h, List.length_cons, List.length_cons, stuffBody_length]
  omega

/-- Settles O51: behind the sentinel's own SYNC0 stands SYNC1, and every SYNC0 of the body has ESC_LIT behind it. -/
theorem sentinelIsUniqueOnTheWire : Obligations.SentinelIsUniqueOnTheWire := by
  unfold Obligations.SentinelIsUniqueOnTheWire
  intro c l j hwf h h0 h1
  obtain ⟨h01, h0e, h1e⟩ := Config.framing_bytes_differ hwf
  rw [wireOf_of_isFrame h] at h0 h1
  match j with
  | 0 => rfl
  | 1 => exact absurd (Option.some.inj h0).symm h01
  | j + 2 => exact absurd (Option.some.inj (h1.symm.trans (stuffBody_escLit_after_sync0 h0e h0))) h1e

end Sys2Proof.Machine
end

section
/-! Runs of BYTE events in which no candidate completes, and the bytes that complete none: the sentinel, and noise. -/
namespace Sys2Proof.Machine

/-- From s to t no candidate completed: the block is in RUN, and what a completion counts and offers is as it was. -/
structure NoCandidateSince (s t : State) : Prop where
  mode : t.mode = .run
  cfg : t.cfg = s.cfg
  sinks : t.sinks = s.sinks
  ctrCand : t.ctrCand = s.ctrCand
  ctrOk : t.ctrOk = s.ctrOk
  bufLength : t.buf.length = s.buf.length

/-- Two stretches without a completion are one. -/
theorem NoCandidateSince.trans {s t u : State} (h : NoCandidateSince s t) (h' : NoCandidateSince t u) :
    NoCandidateSince s u :=
  ⟨h'.mode, h'.cfg.trans h.cfg, h'.sinks.trans h.sinks, h'.ctrCand.trans h.ctrCand, h'.ctrOk.trans h.ctrOk,
    h'.bufLength.trans h.bufLength⟩

/-- Taking an offer and counting a byte complete nothing. -/
theorem noCandidateSince_countByte {s : State} (hm : s.mode = .run) (o : Offer) (rest : List Offer) :
    NoCandidateSince s (countByte (takeOffer o rest s)) :=
  ⟨hm, rfl, rfl, rfl, rfl, rfl⟩

/-- A BYTE form that stores nothing completes nothing. -/
theorem noCandidateSince_byteEffect {c : Config} {i : Instr} {s : State} (hm : s.mode = .run)
    (hquiet : storedByte c i = none) : NoCandidateSince s (byteEffect c i s) := by
  cases i with
  | accumLiteral _ | accEscEscLit => contradiction
  | _ => constructor <;> simp [byteEffect, hm]

/-- Storing a byte in BUF completes nothing before it is settled. -/
theorem noCandidateSince_accumulate {s : State} (hm : s.mode = .run) (v : Byte) :
    NoCandidateSince s (setSync .accum (putByte v s)) :=
  ⟨hm, rfl, rfl, rfl, rfl, List.length_set⟩

/-- n steps lead from s to t, and no candidate completes before the last of them. -/
def QuietRun (s : State) (n : Nat) (t : State) : Prop :=
  Sys2Proof.core.run n s = .next t ∧ ∀ m, m < n → ∃ u, Sys2Proof.core.run m s = .next u ∧ NoCandidateSince s u

/-- A run of n + 1 steps is a step and a run of the n after it. -/
theorem run_succ {s t : State} {n : Nat} :
    Sys2Proof.core.run (n + 1) s = .next t ↔ ∃ s', step s = .next s' ∧ Sys2Proof.core.run n s' = .next t := by
  simp only [Host.Core.run, Sys2Proof.core]
  cases step s <;> simp

/-- A run goes on from where its first part leads. -/
theorem run_add {m n : Nat} {s t u : State} (h : Sys2Proof.core.run m s = .next t)
    (h' : Sys2Proof.core.run n t = .next u) : Sys2Proof.core.run (m + n) s = .next u := by
  induction m generalizing s with
  | zero =>
    obtain rfl := Host.Outcome.next.inj h
    rwa [Nat.zero_add]
  | succ m ih =>
    obtain ⟨s', hstep, hrest⟩ := run_succ.mp h
    rw [Nat.succ_add]
    exact run_succ.mpr ⟨s', hstep, ih hrest⟩

/-- One step is a run. -/
theorem run_one {s t : State} (h : step s = .next t) : Sys2Proof.core.run 1 s = .next t :=
  run_succ.mpr ⟨t, h, rfl⟩

/-- A step from RUN is a quiet run, whether it completes a candidate or not. -/
theorem QuietRun.one {s t : State} (hm : s.mode = .run) (h : step s = .next t) : QuietRun s 1 t := by
  refine ⟨run_one h, fun m hlt => ?_⟩
  obtain rfl := Nat.lt_one_iff.mp hlt
  exact ⟨s, rfl, hm, rfl, rfl, rfl, rfl, rfl⟩

/-- A quiet run that completes no candidate at its end goes on as one. -/
theorem QuietRun.trans {s t u : State} {m n : Nat} (h : QuietRun s m t) (hnone : NoCandidateSince s t)
    (h' : QuietRun t n u) : QuietRun s (m + n) u := by
  obtain ⟨hrun, hbefore⟩ := h
  obtain ⟨hrun', hbefore'⟩ := h'
  refine ⟨run_add hrun hrun', fun k hk => ?_⟩
  by_cases hkm : k < m
  · exact hbefore k hkm
  · obtain ⟨d, rfl⟩ := Nat.exists_eq_add_of_le (not_lt.mp hkm)
    obtain ⟨v, hv, hnone'⟩ := hbefore' d (by omega)
    exact ⟨v, run_add hrun hv, hnone.trans hnone'⟩

/-- The byte SYNC0 leaves every SYNC_ST waiting for SYNC1, and stores nothing (R102, R105, R107, R111). -/
theorem classifyByte_sync0 {c : Config} (hwf : c.wf = true) (st : SyncState) (s : State) :
    storedByte c (classifyByte c st c.sync0) = none ∧
      ((byteEffect c (classifyByte c st c.sync0) s).syncSt = .seekS1 ∨
        (byteEffect c (classifyByte c st c.sync0) s).syncSt = .accEsc) := by
  obtain ⟨h01, h0e, -⟩ := Config.framing_bytes_differ hwf
  cases st <;> simp [classifyByte, storedByte, byteEffect, h01, h0e]

/-- The byte SYNC1 after SYNC0 starts a frame, inside a frame too, and stores nothing (R104, R110). -/
theorem classifyByte_sync1 {c : Config} (hwf : c.wf = true) {st : SyncState} (hst : st = .seekS1 ∨ st = .accEsc)
    (s : State) :
    storedByte c (classifyByte c st c.sync1) = none ∧
      (byteEffect c (classifyByte c st c.sync1) s = startFrame s ∨
        byteEffect c (classifyByte c st c.sync1) s = truncate s) := by
  obtain ⟨-, -, h1e⟩ := Config.framing_bytes_differ hwf
  obtain rfl | rfl := hst <;> simp [classifyByte, storedByte, byteEffect, h1e]

/-- A byte whose form stores nothing is a quiet step. -/
theorem step_quiet_byte {s : State} {o : Offer} {rest : List Offer} {b : Byte} (hwf : s.cfg.wf = true)
    (hm : s.mode = .run) (hp : s.pending = o :: rest) (hw : o.word = encodeEvent (.byte b))
    (hquiet : storedByte s.cfg (classifyByte s.cfg s.syncSt b) = none) :
    ∃ t, t = byteEffect s.cfg (classifyByte s.cfg s.syncSt b) (countByte (takeOffer o rest s)) ∧
      step s = .next t ∧ NoCandidateSince s t ∧ t.pending = rest := by
  refine ⟨_, rfl, step_byte hwf hm hp hw, ?_, by simp⟩
  exact (noCandidateSince_countByte hm o rest).trans (noCandidateSince_byteEffect hm hquiet)

/-- The block accepts bytes: it is in RUN under an admitted configuration, with a BUF of FRAME_LEN bytes. -/
structure Ready (s : State) : Prop where
  wf : s.cfg.wf = true
  mode : s.mode = .run
  bufLength : s.buf.length = s.cfg.frameLen

/-- The machine invariant gives the rest of what RUN needs. -/
theorem ready_of_inv {s : State} (hinv : Inv s) (hm : s.mode = .run) : Ready s := by
  obtain ⟨⟨hwf, hbuf, -⟩, -⟩ := hinv
  exact ⟨hwf, hm, hbuf⟩

/-- Without a completion the block goes on accepting bytes. -/
theorem Ready.next {s t : State} (h : Ready s) (hnone : NoCandidateSince s t) : Ready t :=
  ⟨hnone.cfg ▸ h.wf, hnone.mode, by rw [hnone.bufLength, hnone.cfg, h.bufLength]⟩

/-- Inside a frame, of which the logical bytes pre stand in BUF. -/
structure Receiving (s : State) (pre : List Byte) : Prop extends Ready s where
  syncSt : s.syncSt = .accum
  cnt : s.cnt.toNat = pre.length
  received : s.buf.take pre.length = pre

/-- From every SYNC_ST the sentinel starts a frame (R115). -/
theorem run_sentinel {s : State} {o0 o1 : Offer} {rest : List Offer} (h : Ready s)
    (hp : s.pending = o0 :: o1 :: rest) (hw0 : o0.word = encodeEvent (.byte s.cfg.sync0))
    (hw1 : o1.word = encodeEvent (.byte s.cfg.sync1)) :
    ∃ t, QuietRun s 2 t ∧ NoCandidateSince s t ∧ Receiving t [s.cfg.sync0, s.cfg.sync1] ∧ t.pending = rest := by
  obtain ⟨hmin, -⟩ := Config.frameLen_bounds h.wf
  obtain ⟨hquiet0, hlead⟩ := classifyByte_sync0 h.wf s.syncSt (countByte (takeOffer o0 (o1 :: rest) s))
  obtain ⟨t, ht, hstep, hnone, hp'⟩ := step_quiet_byte h.wf h.mode hp hw0 hquiet0
  rw [← ht] at hlead
  have ht' := h.next hnone
  obtain ⟨hquiet1, hstart⟩ := classifyByte_sync1 ht'.wf hlead (countByte (takeOffer o1 rest t))
  obtain ⟨u, hu, hstep', hnone', hp''⟩ := step_quiet_byte ht'.wf ht'.mode hp' (hnone.cfg ▸ hw1) hquiet1
  have hsentinel : ((t.buf.set 0 s.cfg.sync0).set 1 s.cfg.sync1).take 2 = [s.cfg.sync0, s.cfg.sync1] := by
    have hroom : 2 ≤ t.buf.length := by rw [hnone.bufLength, h.bufLength]; omega
    match hb : t.buf with
    | [] | [_] => simp [hb] at hroom
    | _ :: _ :: _ => rfl
  have hframe : u.syncSt = .accum ∧ u.cnt = 2 ∧ u.buf = (t.buf.set 0 s.cfg.sync0).set 1 s.cfg.sync1 := by
    rw [hu, ← hnone.cfg]
    obtain h | h := hstart <;> rw [h] <;> exact ⟨rfl, rfl, rfl⟩
  obtain ⟨hst, hcnt, hu_buf⟩ := hframe
  exact ⟨u, (QuietRun.one h.mode hstep).trans hnone (QuietRun.one ht'.mode hstep'), hnone.trans hnone',
    ⟨ht'.next hnone', hst, by rw [hcnt]; rfl, hu_buf ▸ hsentinel⟩, hp''⟩

/-- The bytes offered are the wire bytes bs. -/
def OffersBytes (offers : List Offer) (bs : List Byte) : Prop :=
  offers.map Offer.word = bs.map fun b => encodeEvent (.byte b)

/-- Offers of a first byte and others are a first offer and others. -/
theorem OffersBytes.cons {offers : List Offer} {b : Byte} {bs : List Byte} (h : OffersBytes offers (b :: bs)) :
    ∃ o os, offers = o :: os ∧ o.word = encodeEvent (.byte b) ∧ OffersBytes os bs :=
  List.map_eq_cons_iff.mp h

/-- Offers of two stretches of bytes are two stretches of offers. -/
theorem OffersBytes.append {offers : List Offer} {bs cs : List Byte} (h : OffersBytes offers (bs ++ cs)) :
    ∃ os ps, offers = os ++ ps ∧ OffersBytes os bs ∧ OffersBytes ps cs := by
  rw [OffersBytes, List.map_append] at h
  exact List.map_eq_append_iff.mp h

/-- No bytes are offered by no offers. -/
theorem OffersBytes.nil {offers : List Offer} (h : OffersBytes offers []) : offers = [] :=
  List.map_eq_nil_iff.mp h

/-- A body that is not empty is offered by some offer. -/
theorem OffersBytes.ne_nil {offers : List Offer} {c : Config} {bs : List Byte} (h : OffersBytes offers (stuffBody c bs))
    (hne : bs ≠ []) : offers ≠ [] := by
  rintro rfl
  have hwire := stuffBody_length c bs
  rw [List.map_eq_nil_iff.mp h.symm, List.length_nil] at hwire
  exact hne (List.length_eq_zero_iff.mp (by omega))

/-- In a frame the wire bytes of one logical byte store it, with the TS of the last of them (R107 to R109). -/
theorem run_logical_byte {s : State} {offers rest : List Offer} {b : Byte} (hwf : s.cfg.wf = true) (hm : s.mode = .run)
    (hst : s.syncSt = .accum) (hp : s.pending = offers ++ rest) (hw : OffersBytes offers (stuffBody s.cfg [b])) :
    ∃ u, QuietRun s offers.length (store b u) ∧ NoCandidateSince s u ∧ u.buf = s.buf ∧ u.cnt = s.cnt ∧
      u.pending = rest ∧ ∀ o ∈ offers.getLast?, u.tsIn = o.ts := by
  obtain ⟨-, h0e, -⟩ := Config.framing_bytes_differ hwf
  by_cases hb : b = s.cfg.sync0
  case neg =>
    obtain ⟨o, os, rfl, hw0, hnil⟩ := OffersBytes.cons (b := b) (bs := []) (by simpa [stuffBody, hb] using hw)
    obtain rfl := hnil.nil
    have hstep := step_byte hwf hm hp hw0
    rw [hst, show classifyByte s.cfg .accum b = .accumLiteral b from if_neg hb] at hstep
    exact ⟨countByte (takeOffer o rest s), QuietRun.one hm hstep, noCandidateSince_countByte hm o rest, rfl, rfl, rfl,
      by simp⟩
  case pos =>
    subst hb
    obtain ⟨o, os, rfl, hw0, hrest⟩ :=
      OffersBytes.cons (b := s.cfg.sync0) (bs := [s.cfg.escLit]) (by simpa [stuffBody] using hw)
    obtain ⟨o', os', rfl, hw1, hnil⟩ := hrest.cons
    obtain rfl := hnil.nil
    have hlead := step_byte hwf hm hp hw0
    rw [hst, show classifyByte s.cfg .accum s.cfg.sync0 = .accumEscLead from if_pos rfl] at hlead
    have hstep := step_byte (s := setSync .accEsc (countByte (takeOffer o (o' :: rest) s))) hwf hm rfl hw1
    have hesc : classifyByte s.cfg .accEsc s.cfg.escLit = .accEscEscLit := if_pos rfl
    simp only [setSync_cfg, countByte_cfg, takeOffer_cfg, setSync_syncSt, hesc] at hstep
    have hnone : NoCandidateSince s (setSync .accEsc (countByte (takeOffer o (o' :: rest) s))) :=
      ⟨hm, rfl, rfl, rfl, rfl, rfl⟩
    exact ⟨_, (QuietRun.one hm hlead).trans hnone (QuietRun.one hm hstep),
      hnone.trans (noCandidateSince_countByte hnone.mode o' rest), rfl, rfl, rfl, by simp⟩

/-- What the last byte of a frame leaves of the state in which its candidate is complete (R113). -/
def finish (u : State) : State := setSync .seekIdle (discard (complete u))

/-- A byte written behind the bytes already known is known with them. -/
theorem take_set_succ {buf pre : List Byte} {b : Byte} (hpre : buf.take pre.length = pre) (hlt : pre.length < buf.length) :
    (buf.set pre.length b).take (pre ++ [b]).length = pre ++ [b] := by
  have hlen : (buf.set pre.length b).length = buf.length := List.length_set
  rw [List.length_append, List.length_singleton, List.take_add_one, List.take_set_of_le (le_refl _), hpre]
  simp [hlt]

/-- The offers run from s, without a completion before the last of them, to the completion of the candidate l in u, with the TS
of the last offer. -/
structure Completes (s : State) (offers rest : List Offer) (l : List Byte) (u : State) : Prop where
  run : QuietRun s offers.length (finish u)
  since : NoCandidateSince s u
  buf : u.buf = l
  pending : u.pending = rest
  ts : ∀ o ∈ offers.getLast?, u.tsIn = o.ts

/-- A quiet run before a completing one is part of it. -/
theorem Completes.prepend {s t u : State} {os ps rest : List Offer} {l : List Byte} (hrun : QuietRun s os.length t)
    (hnone : NoCandidateSince s t) (hne : ps ≠ []) (h : Completes t ps rest l u) : Completes s (os ++ ps) rest l u where
  run := by
    rw [List.length_append]
    exact hrun.trans hnone h.run
  since := hnone.trans h.since
  buf := h.buf
  pending := h.pending
  ts := by
    rw [List.getLast?_append_of_ne_nil _ hne]
    exact h.ts

section Receiving
variable {s : State} {pre : List Byte} {offers rest : List Offer} {b : Byte}

/-- A byte stored in a frame goes behind those received, and CNT counts it. -/
theorem Receiving.put {u : State} (h : Receiving s pre) (hroom : pre.length < s.cfg.frameLen) (hbuf : u.buf = s.buf)
    (hcnt : u.cnt = s.cnt) :
    (u.cnt + 1).toNat = (pre ++ [b]).length ∧ (putByte b u).buf.take (pre ++ [b]).length = pre ++ [b] := by
  obtain ⟨-, hmax⟩ := Config.frameLen_bounds h.wf
  have hfits : s.cnt.toNat + (1 : BitVec 8).toNat < 2 ^ 8 := by
    have hone : (1 : BitVec 8).toNat = 1 := rfl
    rw [h.cnt, hone]
    omega
  rw [putByte_buf, hbuf, hcnt, h.cnt]
  exact ⟨by rw [BitVec.toNat_add_of_lt hfits, h.cnt]; simp, take_set_succ h.received (by rw [h.bufLength]; exact hroom)⟩

/-- The wire bytes of a logical byte that is not the last go on with the frame. -/
theorem run_inner_byte (h : Receiving s pre) (hmore : pre.length + 1 < s.cfg.frameLen) (hp : s.pending = offers ++ rest)
    (hw : OffersBytes offers (stuffBody s.cfg [b])) :
    ∃ t, QuietRun s offers.length t ∧ NoCandidateSince s t ∧ Receiving t (pre ++ [b]) ∧ t.pending = rest := by
  obtain ⟨u, hrun, hnone, hbuf, hcnt, hpending, -⟩ := run_logical_byte h.wf h.mode h.syncSt hp hw
  obtain ⟨hcnt', hreceived⟩ := h.put (b := b) (by omega) hbuf hcnt
  have hnone' := hnone.trans (noCandidateSince_accumulate hnone.mode b)
  obtain ⟨hlast, -⟩ | ⟨-, hstore⟩ := store_cases b u
  · rw [hcnt', hnone.cfg, List.length_append, List.length_singleton] at hlast
    omega
  · rw [hstore] at hrun
    exact ⟨_, hrun, hnone', ⟨h.toReady.next hnone', rfl, hcnt', hreceived⟩, hpending⟩

/-- The wire bytes of the last logical byte complete the candidate. -/
theorem run_last_byte (h : Receiving s pre) (hlast : pre.length + 1 = s.cfg.frameLen) (hp : s.pending = offers ++ rest)
    (hw : OffersBytes offers (stuffBody s.cfg [b])) : ∃ u, Completes s offers rest (pre ++ [b]) u := by
  obtain ⟨u, hrun, hnone, hbuf, hcnt, hpending, hts⟩ := run_logical_byte h.wf h.mode h.syncSt hp hw
  obtain ⟨hcnt', hreceived⟩ := h.put (b := b) (by omega) hbuf hcnt
  have hfull : (putByte b u).buf.length ≤ (pre ++ [b]).length := by
    rw [putByte_buf, List.length_set, hnone.bufLength, h.bufLength, ← hlast, List.length_append, List.length_singleton]
  rw [List.take_of_length_le hfull] at hreceived
  obtain ⟨-, hstore⟩ | ⟨hmore, -⟩ := store_cases b u
  · rw [hstore] at hrun
    exact ⟨putByte b u, hrun, hnone.trans ⟨hnone.mode, rfl, rfl, rfl, rfl, List.length_set⟩, hreceived, hpending, hts⟩
  · rw [hcnt', hnone.cfg, List.length_append, List.length_singleton] at hmore
    exact absurd hlast hmore

end Receiving

/-- In a frame the wire bytes of the rest of its body fill BUF and complete the candidate with the last of them (R115). -/
theorem run_body {bs : List Byte} {s : State} {pre : List Byte} {offers rest : List Offer} (h : Receiving s pre)
    (hne : bs ≠ []) (hlen : pre.length + bs.length = s.cfg.frameLen) (hp : s.pending = offers ++ rest)
    (hw : OffersBytes offers (stuffBody s.cfg bs)) : ∃ u, Completes s offers rest (pre ++ bs) u := by
  induction bs generalizing s pre offers with
  | nil => contradiction
  | cons b bs ih =>
    rw [List.length_cons] at hlen
    by_cases hlast : bs = []
    · subst hlast
      exact run_last_byte h hlen hp hw
    · have hpos := List.length_pos_of_ne_nil hlast
      rw [stuffBody_cons] at hw
      obtain ⟨os, ps, rfl, hwos, hwps⟩ := hw.append
      rw [List.append_assoc] at hp
      obtain ⟨t, hrun, hnone, ht, hp'⟩ := run_inner_byte h (by omega) hp hwos
      have hlen' : (pre ++ [b]).length + bs.length = t.cfg.frameLen := by
        rw [hnone.cfg, List.length_append, List.length_singleton]
        omega
      obtain ⟨u, hu⟩ := ih ht hlast hlen' hp' (hnone.cfg ▸ hwps)
      rw [List.append_assoc] at hu
      exact ⟨u, hu.prepend hrun hnone (hwps.ne_nil hlast)⟩

/-- The wire bytes of a frame, from any state in RUN, complete its candidate with the last of them (R115). -/
theorem run_wire {s : State} {l : List Byte} {offers rest : List Offer} (h : Ready s) (hl : IsFrame s.cfg l)
    (hp : s.pending = offers ++ rest) (hw : OffersBytes offers (wireOf s.cfg l)) : ∃ u, Completes s offers rest l u := by
  obtain ⟨hmin, -⟩ := Config.frameLen_bounds h.wf
  obtain ⟨hlen, -⟩ := id hl
  have hbody : (l.drop 2).length + 2 = s.cfg.frameLen := by
    rw [List.length_drop, hlen]
    omega
  have hne : l.drop 2 ≠ [] := List.ne_nil_of_length_pos (by omega)
  rw [wireOf_of_isFrame hl] at hw
  obtain ⟨o0, os, rfl, hw0, hos⟩ := hw.cons
  obtain ⟨o1, body, rfl, hw1, hwbody⟩ := hos.cons
  obtain ⟨t, hrun, hnone, ht, hp'⟩ := run_sentinel h hp hw0 hw1
  obtain ⟨u, hu⟩ := run_body ht hne (by rw [hnone.cfg, ← hbody, Nat.add_comm]; rfl) hp' (hnone.cfg ▸ hwbody)
  rw [hl.eq_cons_cons]
  exact ⟨u, hu.prepend (os := [o0, o1]) hrun hnone (hwbody.ne_nil hne)⟩

/-- Every completion counts its candidate (R130). -/
@[simp] theorem complete_ctrCand (s : State) : (complete s).ctrCand = bump s.cfg s.ctrCand := by
  obtain ⟨e, -, -, h⟩ | ⟨rs, -, h⟩ := complete_cases s <;> simp [h]

/-- What a finished frame leaves: a counted candidate, its bytes in BUF, and the search for a sentinel. -/
theorem finish_of_noCandidateSince {s u : State} (h : NoCandidateSince s u) :
    (finish u).mode = .run ∧ (finish u).ctrCand = bump s.cfg s.ctrCand ∧ (finish u).buf = u.buf := by
  simp [finish, h.mode, h.cfg, h.ctrCand]

/-- Settles O47: the last wire byte completes the frame, and none before it completes a candidate. -/
theorem lockOn : Obligations.LockOn := by
  unfold Obligations.LockOn
  intro s l offers rest hinv hm hl hw hp
  obtain ⟨u, ⟨hrun, hbefore⟩, hnone, rfl, hpending, -⟩ := run_wire (ready_of_inv hinv hm) hl hp hw
  obtain ⟨hmode, hcand, hbuf'⟩ := finish_of_noCandidateSince hnone
  refine ⟨fun n hn => ?before, finish u, hrun, hmode, rfl, rfl, hbuf', hcand, by simpa [finish] using hpending⟩
  case before =>
    obtain ⟨t, ht, hquiet⟩ := hbefore n hn
    exact ⟨t, ht, hquiet.mode, hquiet.ctrCand, hquiet.sinks⟩

/-- Settles O48: the completion of the frame decodes its logical bytes, with the last byte's TS, and concludes on the sinks as they
were before the frame. -/
theorem framesAreDeliveredEndToEnd : Obligations.FramesAreDeliveredEndToEnd := by
  unfold Obligations.FramesAreDeliveredEndToEnd
  intro s l offers rest o hinv hm hl hw hp
  obtain ⟨u, ⟨hrun, -⟩, hnone, rfl, -, hts⟩ :=
    run_wire (offers := offers ++ [o]) (ready_of_inv hinv hm) hl (by simpa using hp) hw
  have htsIn : u.tsIn = o.ts := hts o (by simp)
  refine ⟨finish u, by simpa using hrun, ?_⟩
  have hsample : sampleTs u = o.ts % 2 ^ s.cfg.tsW := by rw [sampleTs, htsIn, hnone.cfg]
  rw [← hsample, ← hnone.cfg]
  obtain ⟨e, hdec, he, hcomplete⟩ | ⟨rs, hdec, hcomplete⟩ := complete_cases u
  · rw [hdec, finish, hcomplete]
    obtain rfl | rfl | rfl := he <;> simp [raiseErr, hnone.sinks, hnone.ctrOk]
  · rw [hdec, finish, hcomplete]
    simp [hnone.sinks, hnone.ctrOk, bump]

/-- Noise has no pair SYNC0 SYNC1 (R116). -/
def SentinelFree (c : Config) (bs : List Byte) : Prop :=
  ∀ j, ¬ (bs[j]? = some c.sync0 ∧ bs[j + 1]? = some c.sync1)

/-- Outside a frame a byte that completes no sentinel only moves SYNC_ST, to SEEK_S1 if it is SYNC0, else to SEEK_IDLE. -/
theorem classifyByte_noise {c : Config} {st : SyncState} {b : Byte} (hout : st = .seekIdle ∨ st = .seekS1)
    (hb : st = .seekS1 → b ≠ c.sync1) (s : State) :
    storedByte c (classifyByte c st b) = none ∧
      byteEffect c (classifyByte c st b) s = setSync (if b = c.sync0 then .seekS1 else .seekIdle) s := by
  obtain rfl | rfl := hout
  · by_cases h0 : b = c.sync0 <;> simp [classifyByte, storedByte, byteEffect, h0]
  · by_cases h0 : b = c.sync0 <;> simp_all [classifyByte, storedByte, byteEffect]

/-- Outside a frame a byte that completes no sentinel keeps the search going: only SYNC0 leaves it in SEEK_S1
(R102 to R106). -/
theorem step_noise {s : State} {o : Offer} {rest : List Offer} {b : Byte} (hwf : s.cfg.wf = true) (hm : s.mode = .run)
    (hout : ¬ inFrame s) (hb : s.syncSt = .seekS1 → b ≠ s.cfg.sync1) (hp : s.pending = o :: rest)
    (hw : o.word = encodeEvent (.byte b)) :
    ∃ t, step s = .next t ∧ NoCandidateSince s t ∧ t.pending = rest ∧ ¬ inFrame t ∧ t.buf = s.buf ∧
      (t.syncSt = .seekS1 → b = s.cfg.sync0) := by
  have hst : s.syncSt = .seekIdle ∨ s.syncSt = .seekS1 := by
    cases h : s.syncSt <;> simp_all [inFrame]
  obtain ⟨hquiet, heffect⟩ := classifyByte_noise hst hb (countByte (takeOffer o rest s))
  obtain ⟨t, ht, hstep, hnone, hp'⟩ := step_quiet_byte hwf hm hp hw hquiet
  rw [heffect] at ht
  refine ⟨t, hstep, hnone, hp', ?_⟩
  rw [ht]
  by_cases h0 : b = s.cfg.sync0 <;> simp [h0, inFrame]

/-- Outside a frame noise completes no candidate, starts no frame and leaves BUF (R116). -/
theorem run_noise {bs : List Byte} {s : State} {offers rest : List Offer} (hwf : s.cfg.wf = true) (hm : s.mode = .run)
    (hout : ¬ inFrame s) (hfirst : s.syncSt = .seekS1 → bs[0]? ≠ some s.cfg.sync1) (hfree : SentinelFree s.cfg bs)
    (hp : s.pending = offers ++ rest) (hw : OffersBytes offers bs) :
    ∃ t, Sys2Proof.core.run offers.length s = .next t ∧ NoCandidateSince s t ∧ t.pending = rest ∧ ¬ inFrame t ∧
      t.buf = s.buf := by
  induction bs generalizing s offers with
  | nil =>
    obtain rfl := hw.nil
    exact ⟨s, rfl, ⟨hm, rfl, rfl, rfl, rfl, rfl⟩, hp, hout, rfl⟩
  | cons b bs ih =>
    obtain ⟨o, os, rfl, hw0, hws⟩ := hw.cons
    obtain ⟨t, hstep, hnone, hp', hout', hbuf, hlead⟩ := step_noise hwf hm hout
      (fun hst hb => hfirst hst (congrArg some hb)) hp hw0
    have hfirst' (hst : t.syncSt = .seekS1) : bs[0]? ≠ some t.cfg.sync1 := by
      rw [hnone.cfg]
      exact fun hnext => hfree 0 ⟨congrArg some (hlead hst), hnext⟩
    have hfree' : SentinelFree t.cfg bs := by
      rw [hnone.cfg]
      exact fun j => hfree (j + 1)
    obtain ⟨u, hrun, hnone', hp'', hout'', hbuf'⟩ := ih (hnone.cfg ▸ hwf) hnone.mode hout' hfirst' hfree' hp' hws
    exact ⟨u, run_succ.mpr ⟨t, hstep, hrun⟩, hnone.trans hnone', hp'', hout'', hbuf'.trans hbuf⟩

/-- Settles O49: the noise before the frame only moves the search, the frame is caught from wherever it stands, and the noise after
it is met in SEEK_IDLE. -/
theorem oneCandidateInSentinelFreeNoise : Obligations.OneCandidateInSentinelFreeNoise := by
  unfold Obligations.OneCandidateInSentinelFreeNoise
  intro s l n1 n2 offers rest hinv hm hst hl hfree1 hfree2 hw hp
  have hready := ready_of_inv hinv hm
  obtain ⟨front, back, rfl, hfront, hback⟩ := OffersBytes.append (bs := n1 ++ wireOf s.cfg l) hw
  obtain ⟨before, wire, rfl, hbefore, hwire⟩ := hfront.append
  rw [List.append_assoc, List.append_assoc] at hp
  obtain ⟨t, hrun1, hnone, hp1, -, -⟩ := run_noise hready.wf hm (by simp [inFrame, hst]) (by simp [hst]) hfree1 hp
    hbefore
  obtain ⟨u, ⟨hrun2, -⟩, hnone', rfl, hp2, -⟩ := run_wire (hready.next hnone) (hnone.cfg ▸ hl) hp1
    (hnone.cfg ▸ hwire)
  have hsince := hnone.trans hnone'
  obtain ⟨hmode, hcand, hbuf2⟩ := finish_of_noCandidateSince hsince
  have hcfg : (finish u).cfg = s.cfg := by simp [finish, hsince.cfg]
  obtain ⟨v, hrun3, hafter, -, hout, hbuf3⟩ := run_noise (s := finish u) (hcfg ▸ hready.wf) hmode (by simp [inFrame, finish])
    (by simp [finish]) (hcfg ▸ hfree2) (by simpa [finish] using hp2) hback
  refine ⟨v, ?run, hafter.ctrCand.trans hcand, hbuf3.trans hbuf2, hout⟩
  case run =>
    rw [List.length_append, List.length_append]
    exact run_add (run_add hrun1 hrun2) hrun3

end Sys2Proof.Machine
end
